-- ==== Sys2Proof/Word.lean ====
section
/-! DEFINITION. The word types of the block (00_scope.md R10): values are unsigned bit patterns. -/

namespace Sys2Proof

/-- A 32-bit value: a register of the CSR window, a command word, a pixel word (R60, R61, R80). -/
abbrev Word := BitVec 32

/-- An 8-bit value: a header, seed, keystream, payload or channel byte. -/
abbrev Byte := BitVec 8

/-- A pair: "a 2-bit quantum extracted from or written to the low-order bits of one color channel" (R14). -/
abbrev Pair := BitVec 2

end Sys2Proof
end

