-- ==== Sys2Proof/Syntax.lean ====
section
/-! DEFINITION. The commands of the block: one constructor per row of spec/opcode_table.json (30_encoding.md R83). -/

namespace Sys2Proof

/-- The K field: which keystream instance or seed buffer a command names (R81, R82). -/
inductive KsId where
  /-- Instance 0: header and legacy-compatible (R130). -/
  | ks0
  /-- Instance 1: payload, current (R130). -/
  | ks1
deriving DecidableEq, Repr, Inhabited

/-- The 19 commands with the operands each uses (R83). -/
inductive Instr where
  /-- NOP (R104). -/
  | nop
  /-- SEED_PUSH k, b (R132). -/
  | seedPush (k : KsId) (b : Byte)
  /-- SEED_CLEAR k (R133). -/
  | seedClear (k : KsId)
  /-- KS_SEED k (R142). -/
  | ksSeed (k : KsId)
  /-- KS_BIT k (R143). -/
  | ksBit (k : KsId)
  /-- KS_BYTE k (R144). -/
  | ksByte (k : KsId)
  /-- KS_XOR k, b (R145). -/
  | ksXor (k : KsId) (b : Byte)
  /-- HDR_NEW (R113). -/
  | hdrNew
  /-- HDR_ADD b (R114). -/
  | hdrAdd (b : Byte)
  /-- HDR_SET v (R115). -/
  | hdrSet (v : Byte)
  /-- HDR_BYTE j (R116). Only j in 0..4 is a command (R84). -/
  | hdrByte (j : Byte)
  /-- PK_RESET (R168). -/
  | pkReset
  /-- PK_ENC_BYTE b (R169). -/
  | pkEncByte (b : Byte)
  /-- PK_ENC_FLUSH (R170). -/
  | pkEncFlush
  /-- PK_DEC_BYTE (R171). -/
  | pkDecByte
  /-- PL_ENCRYPT v (R184). -/
  | plEncrypt (v : Byte)
  /-- PL_DECRYPT (R188). -/
  | plDecrypt
  /-- PL_CANCEL (R193). -/
  | plCancel
  /-- PL_ACK (R194). -/
  | plAck
deriving DecidableEq, Repr

end Sys2Proof
end

