-- ==== Sys2Proof/WellFormed.lean ====
section
/-! DEFINITION. The value restrictions of the opcode map (30_encoding.md R83, R84). -/

namespace Sys2Proof

/-- Whether a command has an encoding. The only value restriction of R83 is HDR_BYTE's: j in 0..4. -/
def Instr.wellFormed (i : Instr) : Bool :=
  match i with
  | .nop => true
  | .seedPush _ _ => true
  | .seedClear _ => true
  | .ksSeed _ => true
  | .ksBit _ => true
  | .ksByte _ => true
  | .ksXor _ _ => true
  | .hdrNew => true
  | .hdrAdd _ => true
  | .hdrSet _ => true
  | .hdrByte j => decide (j.toNat ≤ 4)
  | .pkReset => true
  | .pkEncByte _ => true
  | .pkEncFlush => true
  | .pkDecByte => true
  | .plEncrypt _ => true
  | .plDecrypt => true
  | .plCancel => true
  | .plAck => true

end Sys2Proof
end

