-- ==== Sys2Proof/Decode.lean ====
section
/-! DEFINITION. Format C (30_encoding.md R80, R81), the decode function of R86, the encoder written from the same
fields, and the opcode map of R83 as a table of match and mask. -/

namespace Sys2Proof

/-- OPC, bits [31:24] of a command word (R81). -/
def fieldOpc (w : Word) : Byte := w.extractLsb' 24 8

/-- RSV, bits [23:9] of a command word, which must be 0 (R81). -/
def fieldRsv (w : Word) : BitVec 15 := w.extractLsb' 9 15

/-- K, bit [8] of a command word (R81). -/
def fieldK (w : Word) : BitVec 1 := w.extractLsb' 8 1

/-- IMM8, bits [7:0] of a command word (R81). -/
def fieldImm (w : Word) : Byte := w.extractLsb' 0 8

/-- Why a word is illegal: the three cases of R84. The block treats them alike (R102). -/
inductive Illegal where
  /-- The OPC is not in the map. -/
  | opcode
  /-- An RSV bit is 1, or the command does not use K or IMM8 and it is not 0. -/
  | unusedField
  /-- HDR_BYTE with IMM8 > 4. -/
  | headerIndex
deriving DecidableEq, Repr

/-- The K field as an index (R82). -/
def ksIdOfBit (k : BitVec 1) : KsId := if k = 0 then .ks0 else .ks1

/-- The bit of the K field that names k (R82). -/
def bitOfKsId (k : KsId) : BitVec 1 :=
  match k with
  | .ks0 => 0
  | .ks1 => 1

/-- A command that uses neither K nor IMM8 (R84, R86). -/
def plainCommand (k : BitVec 1) (imm : Byte) (c : Instr) : Except Illegal Instr :=
  if k = 0 ∧ imm = 0 then .ok c else .error .unusedField

/-- A command that uses K only (R84, R86). -/
def kCommand (k : BitVec 1) (imm : Byte) (c : KsId → Instr) : Except Illegal Instr :=
  if imm = 0 then .ok (c (ksIdOfBit k)) else .error .unusedField

/-- A command that uses IMM8 only (R84, R86). -/
def immCommand (k : BitVec 1) (imm : Byte) (c : Byte → Instr) : Except Illegal Instr :=
  if k = 0 then .ok (c imm) else .error .unusedField

/-- HDR_BYTE: IMM8 only, and at most 4 (R84, R86). -/
def hdrByteCommand (k : BitVec 1) (imm : Byte) : Except Illegal Instr :=
  if k ≠ 0 then .error .unusedField
  else if imm.toNat ≤ 4 then .ok (.hdrByte imm)
  else .error .headerIndex

/-- The opcode map applied to the three fields (R83, R86). -/
def decodeFields (opc : Byte) (k : BitVec 1) (imm : Byte) : Except Illegal Instr :=
  if opc = 0x00 then plainCommand k imm .nop
  else if opc = 0x01 then .ok (.seedPush (ksIdOfBit k) imm)
  else if opc = 0x02 then kCommand k imm .seedClear
  else if opc = 0x03 then kCommand k imm .ksSeed
  else if opc = 0x04 then kCommand k imm .ksBit
  else if opc = 0x05 then kCommand k imm .ksByte
  else if opc = 0x06 then .ok (.ksXor (ksIdOfBit k) imm)
  else if opc = 0x10 then plainCommand k imm .hdrNew
  else if opc = 0x11 then immCommand k imm .hdrAdd
  else if opc = 0x12 then immCommand k imm .hdrSet
  else if opc = 0x13 then hdrByteCommand k imm
  else if opc = 0x20 then plainCommand k imm .pkReset
  else if opc = 0x21 then immCommand k imm .pkEncByte
  else if opc = 0x22 then plainCommand k imm .pkEncFlush
  else if opc = 0x23 then plainCommand k imm .pkDecByte
  else if opc = 0x30 then immCommand k imm .plEncrypt
  else if opc = 0x31 then plainCommand k imm .plDecrypt
  else if opc = 0x32 then plainCommand k imm .plCancel
  else if opc = 0x33 then plainCommand k imm .plAck
  else .error .opcode

/-- The decode function, total on every 32-bit word (R86). -/
def decode (w : Word) : Except Illegal Instr :=
  if fieldRsv w ≠ 0 then .error .unusedField
  else decodeFields (fieldOpc w) (fieldK w) (fieldImm w)

/-- A command word from its fields: `{OPC, 15'b0, K, IMM8}` (R87). -/
def formatC (opc : Byte) (k : BitVec 1) (imm : Byte) : Word := opc ++ (0 : BitVec 15) ++ k ++ imm

/-- The word of a command (R83, R87). -/
def encode (i : Instr) : Word :=
  match i with
  | .nop => formatC 0x00 0 0
  | .seedPush k b => formatC 0x01 (bitOfKsId k) b
  | .seedClear k => formatC 0x02 (bitOfKsId k) 0
  | .ksSeed k => formatC 0x03 (bitOfKsId k) 0
  | .ksBit k => formatC 0x04 (bitOfKsId k) 0
  | .ksByte k => formatC 0x05 (bitOfKsId k) 0
  | .ksXor k b => formatC 0x06 (bitOfKsId k) b
  | .hdrNew => formatC 0x10 0 0
  | .hdrAdd b => formatC 0x11 0 b
  | .hdrSet v => formatC 0x12 0 v
  | .hdrByte j => formatC 0x13 0 j
  | .pkReset => formatC 0x20 0 0
  | .pkEncByte b => formatC 0x21 0 b
  | .pkEncFlush => formatC 0x22 0 0
  | .pkDecByte => formatC 0x23 0 0
  | .plEncrypt v => formatC 0x30 0 v
  | .plDecrypt => formatC 0x31 0 0
  | .plCancel => formatC 0x32 0 0
  | .plAck => formatC 0x33 0 0

/-- One row of the match and mask table of R83. `immMax` is the row's value restriction on IMM8. -/
structure OpcodeRow where
  mnemonic : String
  matchWord : Word
  mask : Word
  immMax : Nat
deriving DecidableEq, Repr

/-- The opcode map as R83 gives it for a decoder. `decode` does not use it: that the two agree is a statement. -/
def opcodeMap : List OpcodeRow :=
  [⟨"NOP", 0x00000000, 0xFFFFFFFF, 255⟩,
   ⟨"SEED_PUSH", 0x01000000, 0xFFFFFE00, 255⟩,
   ⟨"SEED_CLEAR", 0x02000000, 0xFFFFFEFF, 255⟩,
   ⟨"KS_SEED", 0x03000000, 0xFFFFFEFF, 255⟩,
   ⟨"KS_BIT", 0x04000000, 0xFFFFFEFF, 255⟩,
   ⟨"KS_BYTE", 0x05000000, 0xFFFFFEFF, 255⟩,
   ⟨"KS_XOR", 0x06000000, 0xFFFFFE00, 255⟩,
   ⟨"HDR_NEW", 0x10000000, 0xFFFFFFFF, 255⟩,
   ⟨"HDR_ADD", 0x11000000, 0xFFFFFF00, 255⟩,
   ⟨"HDR_SET", 0x12000000, 0xFFFFFF00, 255⟩,
   ⟨"HDR_BYTE", 0x13000000, 0xFFFFFF00, 4⟩] ++
  [⟨"PK_RESET", 0x20000000, 0xFFFFFFFF, 255⟩,
   ⟨"PK_ENC_BYTE", 0x21000000, 0xFFFFFF00, 255⟩,
   ⟨"PK_ENC_FLUSH", 0x22000000, 0xFFFFFFFF, 255⟩,
   ⟨"PK_DEC_BYTE", 0x23000000, 0xFFFFFFFF, 255⟩,
   ⟨"PL_ENCRYPT", 0x30000000, 0xFFFFFF00, 255⟩,
   ⟨"PL_DECRYPT", 0x31000000, 0xFFFFFFFF, 255⟩,
   ⟨"PL_CANCEL", 0x32000000, 0xFFFFFFFF, 255⟩,
   ⟨"PL_ACK", 0x33000000, 0xFFFFFFFF, 255⟩]

/-- The mnemonic of a command, as the opcode map spells it (R83). -/
def Instr.mnemonic (i : Instr) : String :=
  match i with
  | .nop => "NOP"
  | .seedPush _ _ => "SEED_PUSH"
  | .seedClear _ => "SEED_CLEAR"
  | .ksSeed _ => "KS_SEED"
  | .ksBit _ => "KS_BIT"
  | .ksByte _ => "KS_BYTE"
  | .ksXor _ _ => "KS_XOR"
  | .hdrNew => "HDR_NEW"
  | .hdrAdd _ => "HDR_ADD"
  | .hdrSet _ => "HDR_SET"
  | .hdrByte _ => "HDR_BYTE"
  | .pkReset => "PK_RESET"
  | .pkEncByte _ => "PK_ENC_BYTE"
  | .pkEncFlush => "PK_ENC_FLUSH"
  | .pkDecByte => "PK_DEC_BYTE"
  | .plEncrypt _ => "PL_ENCRYPT"
  | .plDecrypt => "PL_DECRYPT"
  | .plCancel => "PL_CANCEL"
  | .plAck => "PL_ACK"

/-- Whether a word matches a row under the row's value restriction (R83). -/
def OpcodeRow.covers (r : OpcodeRow) (w : Word) : Bool :=
  decide (w &&& r.mask = r.matchWord) && decide ((fieldImm w).toNat ≤ r.immMax)

/-- The command word of an opcode-table row whose nbits low bits are w; higher bits are 0. There is one word and
no byte lane (R67, R80). -/
def tableWord (nbits w : Nat) : Word := BitVec.ofNat 32 (w % 2 ^ nbits)

/-- What the decoder reads from that word. -/
def decodeTableWord (nbits w : Nat) : Option Instr := (decode (tableWord nbits w)).toOption

end Sys2Proof
end

