-- ==== Sys2Proof/Config.lean ====
section
/-! DEFINITION. What is fixed for one block: the constants of 00_scope.md R7 and R8, and the open parameters of R9,
which no source settles: they are ONE uninterpreted constant, `Config.params` (log entry 4). -/

namespace Sys2Proof

/-- WID[i]: the effective width of LFSR register i (R7). -/
def Config.wid (i : Fin 5) : Nat :=
  match i with
  | 0 => 17
  | 1 => 18
  | 2 => 17
  | 3 => 21
  | 4 => 20

/-- MAX_VERSION: the highest header version the block understands (R7). -/
def Config.maxVersion : Byte := 1

/-- The value of the ID register (R8, R24). -/
def Config.idValue : Word := 0x44454C46

/-- KS0_ALGO: the algorithm that produces the keystream of instance 0 (R9). -/
inductive Config.Ks0Algo where
  | lfsr
  | legacy
deriving DecidableEq, Repr, Inhabited

/-- V0_POLICY: how a masked version-0 payload is handled (R9, R183). -/
inductive Config.V0Policy where
  | sameStream
  | reject
deriving DecidableEq, Repr, Inhabited

/-- What SEED_SLICE yields (R134): five initial values, `init[i] < 2^WID[i]`, and five indices below 64.
The ranges are the types. -/
structure Config.Slice where
  init : (i : Fin 5) → BitVec (Config.wid i)
  idx : Fin 5 → Fin 64
deriving Inhabited

/-- The open parameters of R9. -/
structure Config.Params where
  /-- TAPTAB[i][j]: the table of 5x64 tap masks (R136). -/
  tapTab : Fin 5 → Fin 64 → Word
  /-- SEED_SLICE: the fixed bit slicing of the 16 seed bytes (R134). -/
  seedSlice : Vector Byte 16 → Config.Slice
  /-- KS0_ALGO (R141). -/
  ks0Algo : Config.Ks0Algo
  /-- LEGACY_KS: the OldCipher byte at a position, from 16 seed bytes (R141). -/
  legacyKs : Vector Byte 16 → Nat → Byte
  /-- V0_POLICY (R183). -/
  v0Policy : Config.V0Policy
  /-- SIZE_SIGNED: whether fileSize is read as signed in the decode checks (R189, R191). -/
  sizeSigned : Bool
deriving Inhabited

/-- The block's parameters. FREE: the spec gives no value (R9, D9 to D14), so nothing is known of them. -/
opaque Config.params : Config.Params

/-- TAPTAB_WF (R137): every mask of register i has its bit WID[i]-1 set and no higher bit. A premise, never
enforced: the rules compute exactly for any table. -/
def Config.Params.TapTabWf (P : Config.Params) : Prop :=
  ∀ (i : Fin 5) (j : Fin 64),
    2 ^ (Config.wid i - 1) ≤ (P.tapTab i j).toNat ∧ (P.tapTab i j).toNat < 2 ^ Config.wid i

end Sys2Proof
end

