-- ==== Sys2Proof/Machine/State.lean ====
section
/-! DEFINITION. The state of the block as plain data (10_state.md R21), the host's memories and the model's own
fields, the reasons a step can stop, and the machine after reset (R44, 70_reset_and_hazards.md R250). -/

namespace Sys2Proof.Machine

/-- PL_STATE, the pipeline state machine (10_state.md R28). The codes 10 to 15 are never held. -/
inductive PlState where
  | idle
  | encHdr
  | encPay
  | encFlush
  | decHdr
  | decAlloc
  | decPay
  | done
  | failed
  | aborted
deriving DecidableEq, Repr, Inhabited

/-- CODE, the outcome of the last command or operation: exactly the values of 60_exceptions.md R221. -/
inductive Code where
  | ok
  | unsupportedHeaderVersion
  | payloadTooLarge
  | allocationOverflow
  | imageTooSmall
  | invalidSeed
  | aborted
  | legacyUnsupported
  | illegalCommand
  | ksNotSeeded
  | imageExhausted
  | pixelRange
  | pkDirection
deriving DecidableEq, Repr, Inhabited

/-- PK.MODE, the packer direction since the last PK_RESET (10_state.md R33); `unset` is the spec's NONE. -/
inductive PkMode where
  | unset
  | enc
  | dec
deriving DecidableEq, Repr, Inhabited

/-- The header codec's state (10_state.md R32). -/
structure Header where
  version : Byte
  size : Word
  count : BitVec 3
  complete : Bool
  unsup : Bool
  hsize : BitVec 4
deriving DecidableEq, Repr

/-- The packer's state (10_state.md R33). PK.OCC is the length of `q` (log entry 12). -/
structure Packer where
  q : List Pair
  mode : PkMode
  pixIdx : Word
deriving DecidableEq, Repr

/-- One seed staging buffer and its count; the count 17 means "more than 16" (10_state.md R36). -/
structure SeedStage where
  buf : Vector Byte 16
  cnt : BitVec 5
deriving DecidableEq, Repr

/-- One keystream instance: five shift registers, five tap masks, and KS_VALID (10_state.md R37). -/
structure Keystream where
  lfsr : Vector Word 5
  tap : Vector Word 5
  valid : Bool
deriving DecidableEq, Repr

/-- The reasons of `raise Fault(reason)` (60_exceptions.md R227, 20_memory.md R60). -/
inductive CsrFault where
  | misalignedCsr
  | csrOutOfWindow
deriving DecidableEq, Repr

/-- A byte-addressed memory of the host: listed bytes by strictly rising address; `Memory.wf` says the form holds. -/
abbrev Memory := List Host.Cell

/-- Who moves next, and with what (00_scope.md R15, 20_memory.md R72; log entry 1). The MODEL's own type. -/
inductive Event where
  /-- The host writes v, in an access of the given width in bits, at a byte offset of the CSR window (R60). -/
  | csrWrite (off bits : Nat) (v : Word)
  /-- The host reads a register (R60). -/
  | csrRead (off bits : Nat)
  /-- The host writes pixel word p of its memory PIX (R61, R87). -/
  | pixWrite (p : Nat) (v : Word)
  /-- The host reads pixel word p of PIX. -/
  | pixRead (p : Nat)
  /-- The host writes byte i of its memory IN (R63, R87). -/
  | inWrite (i : Nat) (b : Byte)
  /-- The host reads byte i of IN. -/
  | inRead (i : Nat)
  /-- The host writes byte i of its memory OUT (R64). -/
  | outWrite (i : Nat) (b : Byte)
  /-- The host reads byte i of OUT. -/
  | outRead (i : Nat)
  /-- The host makes up its mind how it will answer `HostAlloc` from now on (R66; log entry 3). -/
  | answerAlloc (grant : Bool)
  /-- The sequencer takes its step, if it is enabled (R190). -/
  | sequencer
  /-- The reset input is asserted (R250; log entry 13). -/
  | reset
deriving DecidableEq, Repr

/-- The machine: every state element of R21 under its own name, the host's memories, and the model's own fields
`allocAnswer`, `busData` and `schedule`. -/
structure State where
  /-- CTRL.MASK_EN (R26). -/
  maskEn : Bool
  /-- W, the image width (R30). -/
  width : BitVec 16
  /-- H, the image height (R30). -/
  height : BitVec 16
  /-- SIZE (R31). -/
  size : Word
  /-- RESULT (R29). -/
  result : Byte
  /-- PL_STATE (R28). -/
  plState : PlState
  /-- CODE (R41). -/
  code : Code
  /-- REJ, the sticky rejection flag (R40). -/
  rej : Bool
  /-- PSEL: which instance masks payload bytes (R39). -/
  psel : KsId
  /-- BYTE_CNT (R35). -/
  byteCnt : Word
  /-- HDR.VERSION, HDR.SIZE, HDR.COUNT, HDR.COMPLETE, HDR.UNSUP, HDR.HSIZE (R32). -/
  hdr : Header
  /-- PK.Q, PK.OCC, PK.MODE, PK.PIX_IDX (R33, R34). -/
  pk : Packer
  /-- SEEDBUF[0], SEED_CNT[0] (R36). -/
  seed0 : SeedStage
  /-- SEEDBUF[1], SEED_CNT[1] (R36). -/
  seed1 : SeedStage
  /-- LFSR[0], TAP[0], KS_VALID[0] (R37). -/
  ks0 : Keystream
  /-- LFSR[1], TAP[1], KS_VALID[1] (R37). -/
  ks1 : Keystream
  /-- LPOS (R38). -/
  lpos : Nat
  /-- LSEED (R38). -/
  lseed : Vector Byte 16
  /-- FAULTED and the reason it was raised for (R21, R227; log entry 5). -/
  faultedBy : Option CsrFault
  /-- PIX, the host's image: byte 4p of it is channel R of pixel p, then G, B, A (R61; log entry 6). -/
  pix : Memory
  /-- IN, the payload to embed (R63). -/
  input : Memory
  /-- OUT, the recovered payload (R64). -/
  output : Memory
  /-- Whether the host has granted an OUT buffer, and its length in bytes (R64, R66; log entry 8). -/
  outSize : Option Nat
  /-- The MODEL's own: the host's next answer to `HostAlloc`, a free draw (R66; log entry 3). -/
  allocAnswer : Bool
  /-- The MODEL's own: what the host's last read returned (log entry 11). -/
  busData : Option Word
  /-- The MODEL's own: who moves next (log entry 1). -/
  schedule : List Event
deriving DecidableEq, Repr

/-- The state stops being one the rules describe. None is reached from a clean entry by a host that keeps its duties
(44_pipeline.md R197): stopping is safe (log entry 9). -/
inductive Fault where
  /-- Raised by a sequencer step whose next pixel has an index of W*H or above (R61, R71). Safe. -/
  | pixelOutOfRange
  /-- Raised by the ENC_PAY step for an IN byte at SIZE or above (R63, R71). Safe. -/
  | inputOutOfRange
  /-- Raised by the DEC_PAY step for an OUT byte beyond the granted buffer, or with none granted (R64, R71). Safe. -/
  | outputOutOfRange
  /-- Raised by the ENC_HDR step when BYTE_CNT names no header byte, which R185 has in 0..4. Safe. -/
  | headerIndexOutOfRange
deriving DecidableEq, Repr

/-- The model has no rule for what was asked of it. -/
inductive Refusal where
  /-- Raised by exec for an instruction that has no meaning yet. Safe. No arm answers so in this model. -/
  | notModelled (mnemonic : String)
  /-- Raised when the host touches PIX, IN or OUT while BUSY against its duty: "No rule gives the result"
  (20_memory.md R76, 60_exceptions.md R228, 70_reset_and_hazards.md R258). Safe (log entry 10). -/
  | hostDutyBroken
deriving DecidableEq, Repr

/-- The answer of exec and of a step. -/
abbrev Result := Host.Outcome State Fault Refusal

/-- An empty header (41_header.md R110). -/
def Header.empty : Header :=
  { version := 0, size := 0, count := 0, complete := false, unsup := false, hsize := 0 }

/-- A fresh packer (43_pixel_packer.md R160). -/
def Packer.fresh : Packer := { q := [], mode := .unset, pixIdx := 0 }

/-- An empty seed buffer (42_keystream.md R133). -/
def SeedStage.empty : SeedStage := { buf := Vector.replicate 16 0, cnt := 0 }

/-- An instance that has not been constructed (R37, R44). -/
def Keystream.unseeded : Keystream :=
  { lfsr := Vector.replicate 5 0, tap := Vector.replicate 5 0, valid := false }

/-- The machine right after reset: every element of R21 at its value of R44. PIX, IN and OUT, which reset does not
touch, list nothing; the model's own fields hold the values of log entries 1, 3, 8 and 11. -/
def State.reset : State :=
  { maskEn := false
    width := 0
    height := 0
    size := 0
    result := 0
    plState := .idle
    code := .ok
    rej := false
    psel := .ks0
    byteCnt := 0
    hdr := Header.empty
    pk := Packer.fresh
    seed0 := SeedStage.empty
    seed1 := SeedStage.empty
    ks0 := Keystream.unseeded
    ks1 := Keystream.unseeded
    lpos := 0
    lseed := Vector.replicate 16 0
    faultedBy := none
    pix := []
    input := []
    output := []
    outSize := none
    allocAnswer := true
    busData := none
    schedule := [] }

end Sys2Proof.Machine
end

