-- ==== Sys2Proof/Machine/Operands.lean ====
section
/-! DEFINITION. Operand assembly (30_encoding.md R82): K selects an instance or a seed buffer, IMM8 is zero-extended;
and the pair order of a byte and of a pixel word (20_memory.md R67). -/

namespace Sys2Proof.Machine

/-- The keystream instance K names: LFSR[k], TAP[k], KS_VALID[k] (R82). -/
def State.ks (s : State) (k : KsId) : Keystream :=
  match k with
  | .ks0 => s.ks0
  | .ks1 => s.ks1

/-- Replace the keystream instance K names. -/
def State.setKs (s : State) (k : KsId) (x : Keystream) : State :=
  match k with
  | .ks0 => { s with ks0 := x }
  | .ks1 => { s with ks1 := x }

/-- The seed buffer and count K names: SEEDBUF[k], SEED_CNT[k] (R82). -/
def State.seed (s : State) (k : KsId) : SeedStage :=
  match k with
  | .ks0 => s.seed0
  | .ks1 => s.seed1

/-- Replace the seed buffer and count K names. -/
def State.setSeed (s : State) (k : KsId) (x : SeedStage) : State :=
  match k with
  | .ks0 => { s with seed0 := x }
  | .ks1 => { s with seed1 := x }

/-- `zext_32` of an immediate byte (R82). -/
def zext32 (b : Byte) : Word := b.setWidth 32

/-- A one-bit value as a byte: `zext_8` of a bit (42_keystream.md R143). -/
def zextBit (b : Bool) : Byte := if b then 1 else 0

/-- The four pairs of a byte, the most significant first (R67, 43_pixel_packer.md R163). -/
def pairsOfByte (b : Byte) : List Pair :=
  [b.extractLsb' 6 2, b.extractLsb' 4 2, b.extractLsb' 2 2, b.extractLsb' 0 2]

/-- The byte of four pairs: `q0<<6 | q1<<4 | q2<<2 | q3` (R67, 43_pixel_packer.md R165). -/
def byteOfPairs (q0 q1 q2 q3 : Pair) : Byte :=
  (q0.setWidth 8 <<< 6) ||| (q1.setWidth 8 <<< 4) ||| (q2.setWidth 8 <<< 2) ||| q3.setWidth 8

/-- PixMerge: each channel becomes `(channel & 0xFC) | pair`, first pair R, second G, third B; alpha stays
(43_pixel_packer.md R161). -/
def pixMerge (v : Word) (p0 p1 p2 : Pair) : Word :=
  ((v.extractLsb' 24 8 &&& 0xFC) ||| p0.setWidth 8) ++ ((v.extractLsb' 16 8 &&& 0xFC) ||| p1.setWidth 8) ++
    ((v.extractLsb' 8 8 &&& 0xFC) ||| p2.setWidth 8) ++ v.extractLsb' 0 8

/-- PixPairs: the three pairs of a pixel word, in the order R, G, B (43_pixel_packer.md R162). -/
def pixPairs (v : Word) : List Pair := [v.extractLsb' 24 2, v.extractLsb' 16 2, v.extractLsb' 8 2]

/-- HdrBuf(j), j in 0..4: byte j of the serialised header, the size big-endian (41_header.md R112). -/
def hdrBuf (h : Header) (j : Nat) : Byte :=
  match j with
  | 0 => h.version
  | 1 => h.size.extractLsb' 24 8
  | 2 => h.size.extractLsb' 16 8
  | 3 => h.size.extractLsb' 8 8
  | _ => h.size.extractLsb' 0 8

end Sys2Proof.Machine
end

