-- ==== Sys2Proof/Machine/Flags.lean ====
section
/-! DEFINITION. The status flags (10_state.md R27, R42), the codes of PL_STATE, CODE and PK.MODE, and the gate that
reads them (40_command.md R101). -/

namespace Sys2Proof.Machine

/-- Whether a pipeline state is one of the busy states (10_state.md R27, R28). -/
def PlState.isBusy (p : PlState) : Bool :=
  match p with
  | .idle => false
  | .encHdr => true
  | .encPay => true
  | .encFlush => true
  | .decHdr => true
  | .decAlloc => true
  | .decPay => true
  | .done => false
  | .failed => false
  | .aborted => false

/-- BUSY, derived from PL_STATE (R27). -/
def State.busy (s : State) : Bool := s.plState.isBusy

/-- FAULTED (R21, R227). -/
def State.faulted (s : State) : Bool := s.faultedBy.isSome

/-- PK.OCC, the length of the pair buffer (R33; log entry 12). -/
def State.occ (s : State) : Nat := s.pk.q.length

/-- The 4-bit code of PL_STATE (R28). -/
def plStateBits (p : PlState) : BitVec 4 :=
  match p with
  | .idle => 0
  | .encHdr => 1
  | .encPay => 2
  | .encFlush => 3
  | .decHdr => 4
  | .decAlloc => 5
  | .decPay => 6
  | .done => 7
  | .failed => 8
  | .aborted => 9

/-- The 8-bit status code (60_exceptions.md R221). -/
def codeBits (c : Code) : Byte :=
  match c with
  | .ok => 0x00
  | .unsupportedHeaderVersion => 0x01
  | .payloadTooLarge => 0x02
  | .allocationOverflow => 0x03
  | .imageTooSmall => 0x04
  | .invalidSeed => 0x05
  | .aborted => 0x06
  | .legacyUnsupported => 0x07
  | .illegalCommand => 0x08
  | .ksNotSeeded => 0x09
  | .imageExhausted => 0x0A
  | .pixelRange => 0x0B
  | .pkDirection => 0x0C

/-- The 2-bit code of PK.MODE (R33). -/
def pkModeBits (m : PkMode) : BitVec 2 :=
  match m with
  | .unset => 0
  | .enc => 1
  | .dec => 2

/-- The bit of PSEL (R27, R39). -/
def pselBit (k : KsId) : BitVec 1 :=
  match k with
  | .ks0 => 0
  | .ks1 => 1

/-- A flag as a bit. -/
def flagBit (b : Bool) : BitVec 1 := if b then 1 else 0

/-- permitted(c, s): the gating table of R101. -/
def permitted (i : Instr) (p : PlState) : Bool :=
  match p with
  | .idle => true
  | .done => i == .nop || i == .plCancel || i == .plAck
  | .failed => i == .nop || i == .plCancel || i == .plAck
  | .aborted => i == .nop || i == .plCancel || i == .plAck
  | .encHdr => i == .nop || i == .plCancel
  | .encPay => i == .nop || i == .plCancel
  | .encFlush => i == .nop || i == .plCancel
  | .decHdr => i == .nop || i == .plCancel
  | .decAlloc => i == .nop || i == .plCancel
  | .decPay => i == .nop || i == .plCancel

end Sys2Proof.Machine
end

