-- ==== Sys2Proof/Machine/Ops.lean ====
section
/-! DEFINITION. The shared operations: the host's memories (20_memory.md R61 to R64), the four ways an outcome is
raised and the return from one (60_exceptions.md R220, R230), the command gate (40_command.md R100), and the image
size and capacity (44_pipeline.md R181). -/

namespace Sys2Proof.Machine

/-! The host's memories as lists of bytes -/

/-- What a byte that is not listed reads as. DESIGN CHOICE (log entry 7). -/
def Memory.unlisted : Byte := 0

/-- The one canonical form: addresses strictly rising, no entry equal to what an unlisted address reads as. -/
abbrev Memory.wf (m : Memory) : Prop :=
  m.Pairwise (fun x y => x.1 < y.1) ∧ ∀ c ∈ m, c.2 ≠ Memory.unlisted

/-- The byte at address a. -/
def Memory.read (m : Memory) (a : Nat) : Byte :=
  match m with
  | [] => Memory.unlisted
  | c :: rest => if c.1 = a then c.2 else Memory.read rest a

/-- The memory with nothing listed at a. -/
def Memory.erase (m : Memory) (a : Nat) : Memory := m.filter (fun c => decide (c.1 ≠ a))

/-- The memory with b listed at a, before the first higher address. -/
def Memory.insert (m : Memory) (a : Nat) (b : Byte) : Memory :=
  match m with
  | [] => [(a, b)]
  | c :: rest => if a < c.1 then (a, b) :: c :: rest else c :: Memory.insert rest a b

/-- The memory with byte b at address a, in canonical form when m is. -/
def Memory.write (m : Memory) (a : Nat) (b : Byte) : Memory :=
  if b = Memory.unlisted then m.erase a else (m.erase a).insert a b

/-- MemRead(PIX, p, 4): pixel word p, R in [31:24], G, B, then A in [7:0] (R61). -/
def Memory.readPixel (m : Memory) (p : Nat) : Word :=
  m.read (4 * p) ++ m.read (4 * p + 1) ++ m.read (4 * p + 2) ++ m.read (4 * p + 3)

/-- MemWrite(PIX, p, 4, v) (R61). -/
def Memory.writePixel (m : Memory) (p : Nat) (v : Word) : Memory :=
  (((m.write (4 * p) (v.extractLsb' 24 8)).write (4 * p + 1) (v.extractLsb' 16 8)).write
    (4 * p + 2) (v.extractLsb' 8 8)).write (4 * p + 3) (v.extractLsb' 0 8)

/-! Image size and capacity -/

/-- NPIX = W*H, exact (R30, R181). -/
def State.npix (s : State) : Nat := s.width.toNat * s.height.toNat

/-- CAP = floor(NPIX*3/4), exact (R181). -/
def State.cap (s : State) : Nat := s.npix * 3 / 4

/-- Whether the next n pixels exist: `PK.PIX_IDX + n <= W*H`, exact (43_pixel_packer.md R167). -/
def State.pixelsExist (s : State) (n : Nat) : Bool := decide (s.pk.pixIdx.toNat + n ≤ s.npix)

/-! Raising an outcome, and returning from one (R220, R230) -/

/-- `raise Error(c)`: CODE alone changes (00_scope.md R12, R103, R220). -/
def raiseError (c : Code) (s : State) : State := { s with code := c }

/-- `raise Fail(c)`: the operation ends in FAILED with CODE c (R12, R220). -/
def raiseFail (c : Code) (s : State) : State := { s with code := c, plState := .failed }

/-- `reject`: REJ is set and nothing else (R12, R224). -/
def reject (s : State) : State := { s with rej := true }

/-- `raise Fault(reason)`: the model enters the faulted state, which only a reset leaves (R12, R227); a state that is
already faulted keeps its reason. -/
def raiseFault (r : CsrFault) (s : State) : State :=
  match s.faultedBy with
  | none => { s with faultedBy := some r }
  | some _ => s

/-- A primitive command's success: `CODE <- OK` (R103). -/
def succeed (s : State) : State := { s with code := .ok }

/-- The return to IDLE: PL_STATE, CODE and REJ are cleared and nothing is restored (44_pipeline.md R194, R230). -/
def acknowledge (s : State) : State := { s with plState := .idle, code := .ok, rej := false }

/-! The gate of a CMD write -/

/-- A legal command: nothing when faulted, rejected when not permitted, else its own effect (40_command.md R100,
60_exceptions.md R225). -/
def submit (i : Instr) (s : State) (effect : State → State) : State :=
  if s.faulted then s
  else if permitted i s.plState then effect s
  else reject s

/-- An illegal word: nothing when faulted, ILLEGAL_COMMAND in IDLE, rejected elsewhere (R100, R102). DEDUCED (log entry
21): 10_state.md R40 to R42 leave it out of what writes REJ and CODE. -/
def submitIllegal (s : State) : State :=
  if s.faulted then s
  else if s.plState = .idle then raiseError .illegalCommand s
  else reject s

end Sys2Proof.Machine
end

