-- ==== Sys2Proof/Machine/Csr.lean ====
section
/-! DEFINITION. The register window (10_state.md R22 to R36): what each register reads, and the gated writes of the RW
registers (40_command.md R105). A write to CMD is in Machine/HostSide.lean. -/

namespace Sys2Proof.Machine

/-- STATUS (R27). -/
def statusWord (s : State) : Word :=
  flagBit s.rej ++ (0 : BitVec 12) ++ pselBit s.psel ++ flagBit s.ks1.valid ++ flagBit s.ks0.valid ++
    codeBits s.code ++ plStateBits s.plState ++ (0 : BitVec 3) ++ flagBit s.busy

/-- CTRL (R26). -/
def ctrlWord (s : State) : Word := (0 : BitVec 31) ++ flagBit s.maskEn

/-- IMG_DIM (R30). -/
def imgDimWord (s : State) : Word := s.height ++ s.width

/-- HDR_STAT (R32). -/
def hdrStatWord (s : State) : Word :=
  (0 : BitVec 12) ++ s.hdr.hsize ++ (0 : BitVec 3) ++ flagBit s.hdr.unsup ++ flagBit s.hdr.complete ++ s.hdr.count ++
    s.hdr.version

/-- Pair j of PK.Q, 0 the oldest, and 0 for j at PK.OCC or above (R33). -/
def pairOrZero (q : List Pair) (j : Nat) : Pair := q.getD j 0

/-- PK_STAT (R33). -/
def pkStatWord (s : State) : Word :=
  (0 : BitVec 14) ++ pkModeBits s.pk.mode ++ pairOrZero s.pk.q 5 ++ pairOrZero s.pk.q 4 ++ pairOrZero s.pk.q 3 ++
    pairOrZero s.pk.q 2 ++ pairOrZero s.pk.q 1 ++ pairOrZero s.pk.q 0 ++ (0 : BitVec 1) ++ BitVec.ofNat 3 s.occ

/-- SEED_STAT (R36). -/
def seedStatWord (s : State) : Word := (0 : BitVec 19) ++ s.seed1.cnt ++ (0 : BitVec 3) ++ s.seed0.cnt

/-- Byte i of a seed buffer. -/
def seedByte (x : SeedStage) (i : Nat) : Byte := x.buf.toList.getD i 0

/-- SEEDW_k_w: seed byte 4w+j in bits [8j+7:8j] (R36). -/
def seedWord (x : SeedStage) (w : Nat) : Word :=
  seedByte x (4 * w + 3) ++ seedByte x (4 * w + 2) ++ seedByte x (4 * w + 1) ++ seedByte x (4 * w)

/-- Word i of a bank of five registers. -/
def bankWord (v : Vector Word 5) (i : Nat) : Word := v.toList.getD i 0

/-- The instance or seed buffer of a bank offset's block number. -/
def ksIdOfBlock (n : Nat) : KsId := if n = 0 then .ks0 else .ks1

/-- What the register at a byte offset of the window reads; CMD and the reserved offsets read 0 (R23). -/
def csrValue (s : State) (off : Nat) : Word :=
  if off = 0x00 then Config.idValue
  else if off = 0x08 then statusWord s
  else if off = 0x0C then ctrlWord s
  else if off = 0x10 then s.result.setWidth 32
  else if off = 0x14 then imgDimWord s
  else if off = 0x18 then s.size
  else if off = 0x1C then hdrStatWord s
  else if off = 0x20 then s.hdr.size
  else if off = 0x24 then pkStatWord s
  else if off = 0x28 then s.pk.pixIdx
  else if off = 0x2C then s.byteCnt
  else if off = 0x30 then seedStatWord s
  else if 0x40 ≤ off ∧ off ≤ 0x64 then
    bankWord (s.ks (ksIdOfBlock ((off - 0x40) / 4 / 5))).lfsr ((off - 0x40) / 4 % 5)
  else if 0x70 ≤ off ∧ off ≤ 0x94 then
    bankWord (s.ks (ksIdOfBlock ((off - 0x70) / 4 / 5))).tap ((off - 0x70) / 4 % 5)
  else if 0xA0 ≤ off ∧ off ≤ 0xBC then
    seedWord (s.seed (ksIdOfBlock ((off - 0xA0) / 0x10))) ((off - 0xA0) / 4 % 4)
  else 0

/-- A write to CTRL, IMG_DIM or SIZE in IDLE; to any other register but CMD, nothing (R23, R105). -/
def writeRegister (s : State) (off : Nat) (v : Word) : State :=
  if off = 0x0C then { s with maskEn := v.getLsbD 0 }
  else if off = 0x14 then { s with width := v.extractLsb' 0 16, height := v.extractLsb' 16 16 }
  else if off = 0x18 then { s with size := v }
  else s

/-- Whether the register at an offset is RW (R23). -/
def isRw (off : Nat) : Bool := off == 0x0C || off == 0x14 || off == 0x18

/-- A host write to a register other than CMD: an RW register keeps its value outside IDLE and REJ is set (R105). -/
def writeCsr (s : State) (off : Nat) (v : Word) : State :=
  if s.faulted then s
  else if isRw off && !(s.plState == .idle) then reject s
  else writeRegister s off v

/-- The fault an access raises, if any: misaligned or partial first, then outside the window (R60, R226). -/
def accessFault (off bits : Nat) : Option CsrFault :=
  if bits ≠ 32 ∨ off % 4 ≠ 0 then some .misalignedCsr
  else if 0x100 ≤ off then some .csrOutOfWindow
  else none

end Sys2Proof.Machine
end

