-- ==== Sys2Proof/Machine/Header.lean ====
section
/-! DEFINITION. NOP (40_command.md R104), and the header codec and its commands (41_header.md): HDR_NEW, HDR_ADD,
HDR_SET, HDR_BYTE. -/

namespace Sys2Proof.Machine

/-- A size byte shifted into the 32-bit pattern, the top byte out (R111). -/
def shiftSize (size : Word) (b : Byte) : Word := (size <<< 8) ||| zext32 b

/-- HdrAdd(b) (R111). -/
def hdrAdd (b : Byte) (h : Header) : Header :=
  if h.unsup || h.complete then h
  else if h.count = 0 then
    { h with version := b, count := 1, unsup := decide (Config.maxVersion < b) }
  else if h.count + 1 = 5 then
    { h with size := shiftSize h.size b, count := h.count + 1, complete := true, hsize := 5 }
  else { h with size := shiftSize h.size b, count := h.count + 1 }

/-- A complete header of version v and size n (R115, 44_pipeline.md R184). -/
def completeHeader (v : Byte) (n : Word) : Header :=
  { version := v, size := n, count := 5, complete := true, unsup := false, hsize := 5 }

/-- The effect of HDR_SET v (R115). -/
def hdrSetEffect (v : Byte) (s : State) : State :=
  if Config.maxVersion < v then raiseError .unsupportedHeaderVersion s
  else succeed { s with hdr := completeHeader v s.size }

/-- NOP: no state changes, in every pipeline state (R104). -/
def execNop (s : State) : Result := .next (submit .nop s id)

/-- HDR_NEW (R113). -/
def execHdrNew (s : State) : Result :=
  .next (submit .hdrNew s fun s => succeed { s with hdr := Header.empty })

/-- HDR_ADD b (R114). -/
def execHdrAdd (b : Byte) (s : State) : Result :=
  .next (submit (.hdrAdd b) s fun s => succeed { s with hdr := hdrAdd b s.hdr })

/-- HDR_SET v (R115). -/
def execHdrSet (v : Byte) (s : State) : Result := .next (submit (.hdrSet v) s (hdrSetEffect v))

/-- HDR_BYTE j (R116). A j above 4 has no encoding: it is the illegal word (30_encoding.md R84; log entry 14). -/
def execHdrByte (j : Byte) (s : State) : Result :=
  .next (if j.toNat ≤ 4 then
    submit (.hdrByte j) s fun s => succeed { s with result := hdrBuf s.hdr j.toNat }
  else submitIllegal s)

end Sys2Proof.Machine
end

