-- ==== Sys2Proof/Machine/Keystream.lean ====
section
/-! DEFINITION. The keystream generator and its commands (42_keystream.md): SEED_PUSH, SEED_CLEAR, KS_SEED, KS_BIT,
KS_BYTE, KS_XOR. -/

namespace Sys2Proof.Machine

/-! Clocking -/

/-- One register's clock: shift right by one, and XOR the tap mask when bit 0 was 1 (R138). -/
def tickRegister (r t : Word) : Word := if r.getLsbD 0 then (r >>> 1) ^^^ t else r >>> 1

/-- KsTick on an instance: all five registers clock, ungated (R138, R139). -/
def Keystream.tick (x : Keystream) : Keystream :=
  { x with lfsr := Vector.ofFn fun i : Fin 5 => tickRegister x.lfsr[i] x.tap[i] }

/-- The XOR of bit 0 of the five registers (R138). -/
def Keystream.lowBits (x : Keystream) : Bool :=
  x.lfsr[0].getLsbD 0 ^^ x.lfsr[1].getLsbD 0 ^^ x.lfsr[2].getLsbD 0 ^^ x.lfsr[3].getLsbD 0 ^^ x.lfsr[4].getLsbD 0

/-- The bit KsTick returns, from the new register values (R138). -/
def Keystream.tickBit (x : Keystream) : Bool := x.tick.lowBits

/-- n more rounds of `b <- ((b << 1) | KsTick(k))[7:0]` (R140). -/
def Keystream.shiftIn (n : Nat) (b : Byte) (x : Keystream) : Byte × Keystream :=
  match n with
  | 0 => (b, x)
  | n + 1 => Keystream.shiftIn n ((b <<< 1) ||| zextBit x.tickBit) x.tick

/-- Eight ticks, the first result in bit 7 (R140). -/
def Keystream.nextByte (x : Keystream) : Byte × Keystream := Keystream.shiftIn 8 0 x

/-- Whether instance k runs the legacy algorithm: only instance 0 can (R141). -/
def usesLegacy (P : Config.Params) (k : KsId) : Bool :=
  match k with
  | .ks0 => P.ks0Algo == .legacy
  | .ks1 => false

/-- KsNextByte(k) (R140), with LegacyNextByte for instance 0 under KS0_ALGO = LEGACY (R141). -/
def ksNextByte (P : Config.Params) (k : KsId) (s : State) : Byte × State :=
  if usesLegacy P k then (P.legacyKs s.lseed s.lpos, { s with lpos := s.lpos + 1 })
  else ((s.ks k).nextByte.1, s.setKs k (s.ks k).nextByte.2)

/-! Construction -/

/-- The initial value of register i: 0 is replaced by 1 (R135). -/
def initialRegister (sl : Config.Slice) (i : Fin 5) : Word :=
  if sl.init i = 0 then 1 else (sl.init i).setWidth 32

/-- The instance built from a seed slice (R135, R136). -/
def constructed (P : Config.Params) (sl : Config.Slice) : Keystream :=
  { lfsr := Vector.ofFn fun i : Fin 5 => initialRegister sl i
    tap := Vector.ofFn fun i : Fin 5 => P.tapTab i (sl.idx i)
    valid := true }

/-- LSEED and LPOS at the construction of instance 0 under KS0_ALGO = LEGACY (R135, R141). -/
def latchLegacy (P : Config.Params) (k : KsId) (s : State) : State :=
  if usesLegacy P k then { s with lseed := s.seed0.buf, lpos := 0 } else s

/-- Construct(k): instance k from SEEDBUF[k], replacing all its state (R135). The caller has checked the count. -/
def construct (P : Config.Params) (k : KsId) (s : State) : State :=
  latchLegacy P k (s.setKs k (constructed P (P.seedSlice (s.seed k).buf)))

/-- Whether exactly 16 bytes are staged for instance k (R36, R142). -/
def State.seedReady (s : State) (k : KsId) : Bool := (s.seed k).cnt == 16

/-! Seed staging -/

/-- One byte pushed; the 17th and later are dropped and the count becomes 17 (R132). -/
def SeedStage.push (x : SeedStage) (b : Byte) : SeedStage :=
  if h : x.cnt.toNat < 16 then { buf := x.buf.set x.cnt.toNat b h, cnt := x.cnt + 1 }
  else { x with cnt := 17 }

/-! Effects of the commands, each with the block's parameters as an argument -/

/-- The effect of KS_SEED k (R142). -/
def ksSeedEffect (P : Config.Params) (k : KsId) (s : State) : State :=
  if s.seedReady k then succeed (construct P k s) else raiseError .invalidSeed s

/-- The effect of KS_BIT k (R143). -/
def ksBitEffect (P : Config.Params) (k : KsId) (s : State) : State :=
  if usesLegacy P k then raiseError .illegalCommand s
  else if (s.ks k).valid then
    succeed { s.setKs k (s.ks k).tick with result := zextBit (s.ks k).tickBit }
  else raiseError .ksNotSeeded s

/-- The effect of KS_BYTE k (R144). -/
def ksByteEffect (P : Config.Params) (k : KsId) (s : State) : State :=
  if (s.ks k).valid then
    succeed { (ksNextByte P k s).2 with result := (ksNextByte P k s).1 }
  else raiseError .ksNotSeeded s

/-- The effect of KS_XOR k, b (R145). -/
def ksXorEffect (P : Config.Params) (k : KsId) (b : Byte) (s : State) : State :=
  if (s.ks k).valid then
    succeed { (ksNextByte P k s).2 with result := b ^^^ (ksNextByte P k s).1 }
  else raiseError .ksNotSeeded s

/-! The commands -/

/-- SEED_PUSH k, b (R132). -/
def execSeedPush (k : KsId) (b : Byte) (s : State) : Result :=
  .next (submit (.seedPush k b) s fun s => succeed (s.setSeed k ((s.seed k).push b)))

/-- SEED_CLEAR k (R133). -/
def execSeedClear (k : KsId) (s : State) : Result :=
  .next (submit (.seedClear k) s fun s => succeed (s.setSeed k SeedStage.empty))

/-- KS_SEED k (R142). -/
def execKsSeed (k : KsId) (s : State) : Result :=
  .next (submit (.ksSeed k) s (ksSeedEffect Config.params k))

/-- KS_BIT k (R143). -/
def execKsBit (k : KsId) (s : State) : Result :=
  .next (submit (.ksBit k) s (ksBitEffect Config.params k))

/-- KS_BYTE k (R144). -/
def execKsByte (k : KsId) (s : State) : Result :=
  .next (submit (.ksByte k) s (ksByteEffect Config.params k))

/-- KS_XOR k, b (R145). -/
def execKsXor (k : KsId) (b : Byte) (s : State) : Result :=
  .next (submit (.ksXor k b) s (ksXorEffect Config.params k b))

end Sys2Proof.Machine
end

