-- ==== Sys2Proof/Machine/Packer.lean ====
section
/-! DEFINITION. The pixel bit packer and its commands (43_pixel_packer.md): PK_RESET, PK_ENC_BYTE, PK_ENC_FLUSH,
PK_DEC_BYTE. The functions touch the pixels their rules name; that those pixels exist is checked by the caller, for
the pixel counts of R167. -/

namespace Sys2Proof.Machine

/-- The pair buffer, the next pixel index and PIX, while pairs move between them. -/
structure Flow where
  q : List Pair
  idx : Word
  mem : Memory
deriving DecidableEq, Repr

/-- One pixel is read, merged with three pairs and written back (R161, R163). -/
def writePairs (m : Memory) (idx : Word) (p0 p1 p2 : Pair) : Memory :=
  m.writePixel idx.toNat (pixMerge (m.readPixel idx.toNat) p0 p1 p2)

/-- `while len(PK.Q) >= 3`: the three oldest pairs go into the next pixel (R163). -/
def drainPairs (q : List Pair) (idx : Word) (m : Memory) : Flow :=
  match q with
  | p0 :: p1 :: p2 :: rest => drainPairs rest (idx + 1) (writePairs m idx p0 p1 p2)
  | [] => { q := [], idx := idx, mem := m }
  | [p0] => { q := [p0], idx := idx, mem := m }
  | [p0, p1] => { q := [p0, p1], idx := idx, mem := m }

/-- The packer and PIX after a flow of pairs. -/
def State.withFlow (s : State) (f : Flow) : State :=
  { s with pk := { s.pk with q := f.q, pixIdx := f.idx }, pix := f.mem }

/-- PkEncByte(b) (R163). -/
def pkEncByte (b : Byte) (s : State) : State :=
  s.withFlow (drainPairs (s.pk.q ++ pairsOfByte b) s.pk.pixIdx s.pix)

/-- The last partial pixel: 1 or 2 pairs are padded with zero pairs to 3, the buffer is emptied (R164). -/
def flushPairs (q : List Pair) (idx : Word) (m : Memory) : Flow :=
  match q with
  | [] => { q := [], idx := idx, mem := m }
  | [p0] => { q := [], idx := idx + 1, mem := writePairs m idx p0 0 0 }
  | [p0, p1] => { q := [], idx := idx + 1, mem := writePairs m idx p0 p1 0 }
  | p0 :: p1 :: p2 :: _ => { q := [], idx := idx + 1, mem := writePairs m idx p0 p1 p2 }

/-- PkEncFlush() (R164). -/
def pkEncFlush (s : State) : State := s.withFlow (flushPairs s.pk.q s.pk.pixIdx s.pix)

/-- `while len(PK.Q) < 4`: the next pixel's pairs are appended. Two rounds fill any buffer (R165). -/
def fillPairs (rounds : Nat) (q : List Pair) (idx : Word) (m : Memory) : Flow :=
  match rounds with
  | 0 => { q := q, idx := idx, mem := m }
  | n + 1 =>
    if q.length < 4 then fillPairs n (q ++ pixPairs (m.readPixel idx.toNat)) (idx + 1) m
    else { q := q, idx := idx, mem := m }

/-- The byte of the four oldest pairs; fewer are never held here (R165). -/
def headByte (q : List Pair) : Byte :=
  match q with
  | q0 :: q1 :: q2 :: q3 :: _ => byteOfPairs q0 q1 q2 q3
  | _ => 0

/-- The pairs and pixels PkDecByte reads (R165). -/
def State.filled (s : State) : Flow := fillPairs 2 s.pk.q s.pk.pixIdx s.pix

/-- PkDecByte(): the byte, and the state with its four pairs consumed (R165). -/
def pkDecByte (s : State) : Byte × State :=
  (headByte s.filled.q, s.withFlow { s.filled with q := s.filled.q.drop 4 })

/-- need_enc: the pixels PkEncByte writes (R167). -/
def needEnc (occ : Nat) : Nat := (occ + 4) / 3

/-- need_flush: the pixels PkEncFlush writes (R167). -/
def needFlush (occ : Nat) : Nat := if 0 < occ then 1 else 0

/-- need_dec: the pixels PkDecByte reads (R167). DEDUCED (log entry 23): from an empty buffer, also at the fourth call
after PK_RESET, they are 2, as R165 and R172 have it, against R171's corner case. -/
def needDec (occ : Nat) : Nat := if 4 ≤ occ then 0 else if 4 ≤ occ + 3 then 1 else 2

/-- DirCheck(d) fails: the packer has gone the other way since its last reset (R166). -/
def wrongWay (d m : PkMode) : Bool := !(m == .unset || m == d)

/-- DirCheck, then RangeCheck, then the effect, `PK.MODE <- d` and `CODE <- OK` (R169 to R171). DESIGN CHOICE (log
entry 20): RangeCheck is made for no pixels too, as the pseudocode of R167 and R170 has it, so a flush of an empty buffer
whose PIX_IDX lies above W*H gives PIXEL_RANGE, against R170's corner case. -/
def packerEffect (d : PkMode) (need : Nat) (effect : State → State) (s : State) : State :=
  if wrongWay d s.pk.mode then raiseError .pkDirection s
  else if s.pixelsExist need then
    succeed { effect s with pk := { (effect s).pk with mode := d } }
  else raiseError .pixelRange s

/-- PK_RESET (R160, R168). -/
def execPkReset (s : State) : Result :=
  .next (submit .pkReset s fun s => succeed { s with pk := Packer.fresh })

/-- PK_ENC_BYTE b (R169). -/
def execPkEncByte (b : Byte) (s : State) : Result :=
  .next (submit (.pkEncByte b) s (packerEffect .enc (needEnc s.occ) (pkEncByte b)))

/-- PK_ENC_FLUSH (R170). -/
def execPkEncFlush (s : State) : Result :=
  .next (submit .pkEncFlush s (packerEffect .enc (needFlush s.occ) pkEncFlush))

/-- PK_DEC_BYTE (R171). -/
def execPkDecByte (s : State) : Result :=
  .next (submit .pkDecByte s
    (packerEffect .dec (needDec s.occ) fun s => { (pkDecByte s).2 with result := (pkDecByte s).1 }))

end Sys2Proof.Machine
end

