-- ==== Sys2Proof/Machine/Pipeline.lean ====
section
/-! DEFINITION. The XOR mask pipeline (44_pipeline.md): PL_ENCRYPT, PL_DECRYPT, PL_CANCEL, PL_ACK, and the six steps of
the sequencer. -/

namespace Sys2Proof.Machine

/-- MaskByte(k, b): XOR with the next keystream byte of instance k when masking is on; else no byte is drawn (R182). -/
def maskByte (P : Config.Params) (k : KsId) (b : Byte) (s : State) : Byte × State :=
  if s.maskEn then (b ^^^ (ksNextByte P k s).1, (ksNextByte P k s).2) else (b, s)

/-- The reading of HDR.SIZE in the decode checks (R189, R191, 90_conflicts.md C1). -/
def sval (P : Config.Params) (size : Word) : Int := if P.sizeSigned then size.toInt else (size.toNat : Int)

/-! The commands -/

/-- Construct(k) when masking is on. -/
def constructWhenMasking (P : Config.Params) (k : KsId) (s : State) : State :=
  if s.maskEn then construct P k s else s

/-- The first start check of PL_ENCRYPT that fails, in the order of R184 and R225. -/
def encryptCheck (P : Config.Params) (v : Byte) (s : State) : Option Code :=
  if Config.maxVersion < v then some .unsupportedHeaderVersion
  else if s.maskEn && !s.seedReady .ks0 then some .invalidSeed
  else if s.maskEn && (v == 1 && !s.seedReady .ks1) then some .invalidSeed
  else if s.maskEn && (v == 0 && P.v0Policy == .reject) then some .legacyUnsupported
  else if s.cap < 5 + s.size.toNat then some .imageTooSmall
  else none

/-- The instance that masks the payload of a version: 1 for version 1, else 0 (R183). -/
def payloadKs (v : Byte) : KsId := if v = 1 then .ks1 else .ks0

/-- The construction of instance 1 for version 1 only (R184). -/
def constructPayloadKs (P : Config.Params) (v : Byte) (s : State) : State :=
  if v = 1 then constructWhenMasking P .ks1 s else s

/-- The set-up of an encrypt whose checks have passed (R184). DEDUCED (log entry 21): it writes HDR.COMPLETE and
HDR.UNSUP, which R184 says and the table of 10_state.md R42 leaves out. -/
def startEncrypt (P : Config.Params) (v : Byte) (s : State) : State :=
  constructPayloadKs P v (constructWhenMasking P .ks0
    { s with
      code := .ok
      hdr := completeHeader v s.size
      pk := { Packer.fresh with mode := .enc }
      byteCnt := 0
      psel := payloadKs v
      plState := .encHdr })

/-- The effect of PL_ENCRYPT v (R184). -/
def plEncryptEffect (P : Config.Params) (v : Byte) (s : State) : State :=
  match encryptCheck P v s with
  | some c => raiseFail c s
  | none => startEncrypt P v s

/-- The set-up of a decrypt whose check has passed (R188). DEDUCED (log entry 21): it writes PSEL, which R188 says and
10_state.md R39 leaves out. -/
def startDecrypt (P : Config.Params) (s : State) : State :=
  constructWhenMasking P .ks0
    { s with
      code := .ok
      hdr := Header.empty
      pk := { Packer.fresh with mode := .dec }
      byteCnt := 0
      psel := .ks0
      plState := .decHdr }

/-- The effect of PL_DECRYPT (R188). -/
def plDecryptEffect (P : Config.Params) (s : State) : State :=
  if s.maskEn && !s.seedReady .ks0 then raiseFail .invalidSeed s else startDecrypt P s

/-- The effect of PL_CANCEL: a busy operation ends in ABORTED; otherwise nothing (R193). -/
def plCancelEffect (s : State) : State :=
  if s.busy then { s with code := .aborted, plState := .aborted } else s

/-- PL_ENCRYPT v (R184). -/
def execPlEncrypt (v : Byte) (s : State) : Result :=
  .next (submit (.plEncrypt v) s (plEncryptEffect Config.params v))

/-- PL_DECRYPT (R188). -/
def execPlDecrypt (s : State) : Result := .next (submit .plDecrypt s (plDecryptEffect Config.params))

/-- PL_CANCEL (R193). -/
def execPlCancel (s : State) : Result := .next (submit .plCancel s plCancelEffect)

/-- PL_ACK (R194). -/
def execPlAck (s : State) : Result := .next (submit .plAck s acknowledge)

/-! The sequencer's steps -/

/-- The index of the payload byte in hand, `BYTE_CNT - 5` (R35, R186, R192). -/
def State.payloadIdx (s : State) : Nat := (s.byteCnt - 5).toNat

/-- One masked byte packed: MaskByte, PkEncByte, and BYTE_CNT counts it (R185, R186). -/
def packMasked (P : Config.Params) (k : KsId) (b : Byte) (s : State) : State :=
  let m := maskByte P k b s
  let t := pkEncByte m.1 m.2
  { t with byteCnt := t.byteCnt + 1 }

/-- Where ENC_HDR goes once header byte j is packed (R185). -/
def afterHeaderByte (j : Nat) (s : State) : PlState :=
  if j = 4 then (if 0 < s.size.toNat then .encPay else .encFlush) else .encHdr

/-- ENC_HDR step: header byte `j = BYTE_CNT` is masked with instance 0 and packed (R185). -/
def stepEncHdr (P : Config.Params) (s : State) : Result :=
  if 4 < s.byteCnt.toNat then .fault .headerIndexOutOfRange
  else if s.pixelsExist (needEnc s.occ) then
    .next { packMasked P .ks0 (hdrBuf s.hdr s.byteCnt.toNat) s with plState := afterHeaderByte s.byteCnt.toNat s }
  else .fault .pixelOutOfRange

/-- Where ENC_PAY goes with BYTE_CNT at n (R186). -/
def afterPayloadByte (n : Nat) (s : State) : PlState := if n = 5 + s.size.toNat then .encFlush else .encPay

/-- ENC_PAY step: payload byte `BYTE_CNT - 5` is read from IN, masked with instance PSEL and packed (R186). -/
def stepEncPay (P : Config.Params) (s : State) : Result :=
  if s.size.toNat ≤ s.payloadIdx then .fault .inputOutOfRange
  else if s.pixelsExist (needEnc s.occ) then
    let t := packMasked P s.psel (s.input.read s.payloadIdx) s
    .next { t with plState := afterPayloadByte t.byteCnt.toNat s }
  else .fault .pixelOutOfRange

/-- ENC_FLUSH step: the last partial pixel is written and the operation is DONE (R187). -/
def stepEncFlush (s : State) : Result :=
  if s.pixelsExist (needFlush s.occ) then .next { pkEncFlush s with code := .ok, plState := .done }
  else .fault .pixelOutOfRange

/-- One byte unpacked and unmasked (R189, R192). -/
def unpackUnmasked (P : Config.Params) (k : KsId) (s : State) : Byte × State :=
  maskByte P k (pkDecByte s).1 (pkDecByte s).2

/-- The checks of the DEC_HDR step after its byte has been parsed (R189, R223). -/
def checkHeader (P : Config.Params) (s : State) : State :=
  if s.hdr.unsup then raiseFail .unsupportedHeaderVersion s
  else if s.hdr.complete then
    if (s.cap : Int) < 5 + sval P s.hdr.size then raiseFail .payloadTooLarge s
    else { s with plState := .decAlloc }
  else s

/-- DEC_HDR step: one header byte is unpacked, unmasked with instance 0 and parsed (R189). -/
def stepDecHdr (P : Config.Params) (s : State) : Result :=
  if s.pixelsExist (needDec s.occ) then
    let m := unpackUnmasked P .ks0 s
    .next (checkHeader P { m.2 with hdr := hdrAdd m.1 m.2.hdr, byteCnt := m.2.byteCnt + 1 })
  else .next (raiseFail .imageExhausted s)

/-- The end of the DEC_ALLOC step, once the payload keystream is settled (R191). -/
def enterPayload (s : State) : State :=
  if s.hdr.size = 0 then { s with code := .ok, plState := .done } else { s with plState := .decPay }

/-- The DEC_ALLOC step after a granted allocation: PSEL is written before a failure (R191, R223). -/
def selectPayloadKs (P : Config.Params) (s : State) : State :=
  if s.hdr.version = 1 then
    if s.maskEn && !s.seedReady .ks1 then raiseFail .invalidSeed { s with psel := .ks1 }
    else enterPayload (constructWhenMasking P .ks1 { s with psel := .ks1 })
  else if s.maskEn && P.v0Policy == .reject then raiseFail .legacyUnsupported { s with psel := .ks0 }
  else enterPayload { s with psel := .ks0 }

/-- DEC_ALLOC step: a negative size and a refused `HostAlloc` fail; a grant gives OUT its HDR.SIZE bytes (R66, R191). -/
def stepDecAlloc (P : Config.Params) (s : State) : Result :=
  .next (if sval P s.hdr.size < 0 then raiseFail .allocationOverflow s
  else if s.allocAnswer then selectPayloadKs P { s with outSize := some s.hdr.size.toNat }
  else raiseFail .allocationOverflow s)

/-- Whether OUT has a byte i: a buffer has been granted and i lies below its length (R64, R71). -/
def State.outputExists (s : State) (i : Nat) : Bool :=
  match s.outSize with
  | none => false
  | some n => decide (i < n)

/-- The end of a DEC_PAY step: DONE when the last payload byte has been stored (R192). -/
def finishPayload (s : State) : State :=
  if s.byteCnt.toNat = 5 + s.hdr.size.toNat then { s with code := .ok, plState := .done } else s

/-- DEC_PAY step: payload byte `BYTE_CNT - 5` is unpacked, unmasked with instance PSEL and stored in OUT (R192). -/
def stepDecPay (P : Config.Params) (s : State) : Result :=
  if s.pixelsExist (needDec s.occ) then
    if s.outputExists s.payloadIdx then
      let m := unpackUnmasked P s.psel s
      .next (finishPayload
        { m.2 with output := m.2.output.write s.payloadIdx m.1, byteCnt := m.2.byteCnt + 1 })
    else .fault .outputOutOfRange
  else .fault .pixelOutOfRange

/-- The sequencer: enabled exactly when FAULTED = 0 and PL_STATE is busy; its step is chosen by PL_STATE (R190). -/
def sequencerStep (P : Config.Params) (s : State) : Result :=
  if s.faulted then .next s
  else match s.plState with
    | .idle => .next s
    | .encHdr => stepEncHdr P s
    | .encPay => stepEncPay P s
    | .encFlush => stepEncFlush s
    | .decHdr => stepDecHdr P s
    | .decAlloc => stepDecAlloc P s
    | .decPay => stepDecPay P s
    | .done => .next s
    | .failed => .next s
    | .aborted => .next s

end Sys2Proof.Machine
end

