-- ==== Sys2Proof/Machine/Dispatch.lean ====
section
/-! DEFINITION. One arm per command: the command as the host's CMD write submits it (40_command.md R100). -/

namespace Sys2Proof.Machine

def exec (i : Instr) (s : State) : Host.Outcome State Fault Refusal :=
  match i with
  | .nop => Sys2Proof.Machine.execNop s
  | .seedPush k b => Sys2Proof.Machine.execSeedPush k b s
  | .seedClear k => Sys2Proof.Machine.execSeedClear k s
  | .ksSeed k => Sys2Proof.Machine.execKsSeed k s
  | .ksBit k => Sys2Proof.Machine.execKsBit k s
  | .ksByte k => Sys2Proof.Machine.execKsByte k s
  | .ksXor k b => Sys2Proof.Machine.execKsXor k b s
  | .hdrNew => Sys2Proof.Machine.execHdrNew s
  | .hdrAdd b => Sys2Proof.Machine.execHdrAdd b s
  | .hdrSet v => Sys2Proof.Machine.execHdrSet v s
  | .hdrByte j => Sys2Proof.Machine.execHdrByte j s
  | .pkReset => Sys2Proof.Machine.execPkReset s
  | .pkEncByte b => Sys2Proof.Machine.execPkEncByte b s
  | .pkEncFlush => Sys2Proof.Machine.execPkEncFlush s
  | .pkDecByte => Sys2Proof.Machine.execPkDecByte s
  | .plEncrypt v => Sys2Proof.Machine.execPlEncrypt v s
  | .plDecrypt => Sys2Proof.Machine.execPlDecrypt s
  | .plCancel => Sys2Proof.Machine.execPlCancel s
  | .plAck => Sys2Proof.Machine.execPlAck s

end Sys2Proof.Machine
end

