-- ==== Sys2Proof/Machine/HostSide.lean ====
section
/-! DEFINITION. The host's side: its accesses to the register window (20_memory.md R60), its own memories with the duty
of R76 and R258, its answer to `HostAlloc` (R66), and the reset input (70_reset_and_hazards.md R250). -/

namespace Sys2Proof.Machine

/-- A host write of word w to CMD (40_command.md R100). -/
def submitWord (w : Word) (s : State) : Result :=
  match decode w with
  | .ok i => exec i s
  | .error _ => .next (submitIllegal s)

/-- A host write of v at a byte offset of the window (R60, R100, R105). -/
def csrWrite (off bits : Nat) (v : Word) (s : State) : Result :=
  match accessFault off bits with
  | some r => .next (raiseFault r s)
  | none => if off = 0x04 then submitWord v s else .next (writeCsr s off v)

/-- What a host read hands over (log entry 11); a faulted model hands nothing over (R227). -/
def handOver (v : Word) (s : State) : State := if s.faulted then s else { s with busData := some v }

/-- A host read at a byte offset of the window: it has no effect on the block (R60, R105). -/
def csrRead (off bits : Nat) (s : State) : Result :=
  match accessFault off bits with
  | some r => .next (raiseFault r s)
  | none => .next (handOver (csrValue s off) s)

/-- A host access to PIX, IN or OUT: none while BUSY, when the host may touch the CSRs only
(70_reset_and_hazards.md R258, 60_exceptions.md R228; that this bars reads of IN, which 20_memory.md R76 does not list,
is log entry 10). -/
def ownMemory (s : State) (effect : State → State) : Result :=
  if s.faulted then .next s
  else if s.busy then .refused .hostDutyBroken
  else .next (effect s)

/-- Reset: every element of R21 takes its value of R44; PIX, IN and OUT and the model's own fields are untouched
(R250, R252). -/
def applyReset (s : State) : State :=
  { State.reset with
    pix := s.pix
    input := s.input
    output := s.output
    outSize := s.outSize
    allocAnswer := s.allocAnswer
    busData := s.busData
    schedule := s.schedule }

/-- One atomic transition (00_scope.md R15, 20_memory.md R72). DESIGN CHOICE: the host's own accesses to PIX, IN and OUT
are not bounded by W*H, SIZE or HDR.SIZE (log entry 6), and those to OUT need no granted buffer (log entry 22). -/
def perform (e : Event) (s : State) : Result :=
  match e with
  | .csrWrite off bits v => csrWrite off bits v s
  | .csrRead off bits => csrRead off bits s
  | .pixWrite p v => ownMemory s fun s => { s with pix := s.pix.writePixel p v }
  | .pixRead p => ownMemory s fun s => handOver (s.pix.readPixel p) s
  | .inWrite i b => ownMemory s fun s => { s with input := s.input.write i b }
  | .inRead i => ownMemory s fun s => handOver (zext32 (s.input.read i)) s
  | .outWrite i b => ownMemory s fun s => { s with output := s.output.write i b }
  | .outRead i => ownMemory s fun s => handOver (zext32 (s.output.read i)) s
  | .answerAlloc grant => .next { s with allocAnswer := grant }
  | .sequencer => sequencerStep Config.params s
  | .reset => .next (applyReset s)

/-- The next transition: the head of the schedule, and, when nothing is scheduled, the sequencer's turn (R190; log
entry 1). -/
def nextTransition (s : State) : Result :=
  match s.schedule with
  | [] => sequencerStep Config.params s
  | e :: rest => perform e { s with schedule := rest }

/-- The schedule with a CMD write of word w put first: the host submits w next (R25, R100; log entry 2). -/
def submitNext (w : Word) (s : State) : State := { s with schedule := .csrWrite 0x04 32 w :: s.schedule }

end Sys2Proof.Machine
end

