-- ==== Sys2Proof/Machine/Step.lean ====
section
/-! DEFINITION. One step of the machine: one atomic transition of the host or of the sequencer (00_scope.md R15). -/

namespace Sys2Proof.Machine

/-- One atomic transition (R15, R72). -/
def step (s : State) : Host.Outcome State Fault Refusal := nextTransition s

/-- The state whose very next step is the host's CMD write of an opcode-table word. -/
def State.withFetchWord (s : State) (nbits w : Nat) : State := submitNext (tableWord nbits w) s

end Sys2Proof.Machine
end

