-- ==== Sys2Proof/Safety.lean ====
section
/-! DEFINITION. What counts as a safe run, in the terms the statements use: the invariants of 10_state.md R45, of the
pipeline (44_pipeline.md R180 to R197), and of the host's memories; and the runs of the sequencer alone. -/

namespace Sys2Proof.Machine

/-- The block runs a command's own effect: not faulted, and in IDLE (40_command.md R100, R101). -/
def State.Ready (s : State) : Prop := s.faultedBy = none ∧ s.plState = .idle

/-- The sequencer has the next move: not faulted, and nothing scheduled before it (R190). -/
def State.SequencerNext (s : State) : Prop := s.faultedBy = none ∧ s.schedule = []

/-! The invariants -/

/-- R45 on the header, with what R110 and R111 keep besides: an incomplete header has at most 4 bytes and no header
size, and with no size byte consumed the size is 0. -/
def Header.Consistent (h : Header) : Prop :=
  (h.complete = true → h.unsup = false ∧ h.count = 5 ∧ h.hsize = 5) ∧
  (h.unsup = true → h.complete = false ∧ h.count = 1) ∧
  (h.complete = false → h.count.toNat ≤ 4 ∧ h.hsize = 0) ∧
  (h.count.toNat ≤ 1 → h.size = 0)

/-- R45 on the pair buffer: at most two pairs between transitions, none before a direction is set. -/
def Packer.Consistent (p : Packer) : Prop := (p.mode = .unset → p.q = []) ∧ p.q.length ≤ 2

/-- R36 and R45 on a seed buffer: a count of at most 17, and zeros above it while it is at most 16. -/
def SeedStage.Consistent (x : SeedStage) : Prop :=
  x.cnt.toNat ≤ 17 ∧ (x.cnt.toNat ≤ 16 → ∀ j : Fin 16, x.cnt.toNat ≤ j.val → x.buf[j] = 0)

/-- Every register lies in [1, 2^WID[i]) and every tap mask has bit WID[i]-1 and no higher (R137, R146). -/
def Keystream.InRange (x : Keystream) : Prop :=
  ∀ i : Fin 5,
    (1 ≤ x.lfsr[i].toNat ∧ x.lfsr[i].toNat < 2 ^ Config.wid i) ∧
    (2 ^ (Config.wid i - 1) ≤ x.tap[i].toNat ∧ x.tap[i].toNat < 2 ^ Config.wid i)

/-- R45 on an instance: once constructed from a well-formed table it stays in range. -/
def Keystream.Consistent (P : Config.Params) (x : Keystream) : Prop :=
  x.valid = true → P.TapTabWf → x.InRange

/-- The three memories of the host hold their canonical form. -/
def State.MemoriesWf (s : State) : Prop := s.pix.wf ∧ s.input.wf ∧ s.output.wf

/-- What CODE can be in each pipeline state (10_state.md R41, 60_exceptions.md R220, R221). -/
def State.OutcomeConsistent (s : State) : Prop :=
  (s.busy = true → s.code = .ok) ∧
  (s.plState = .done → s.code = .ok) ∧
  (s.plState = .aborted → s.code = .aborted) ∧
  (s.plState = .failed →
    s.code ∈ [Code.unsupportedHeaderVersion, .payloadTooLarge, .allocationOverflow, .imageTooSmall, .invalidSeed,
      .legacyUnsupported, .imageExhausted])

/-- The packer while an encrypt runs: BYTE_CNT bytes are 4*BYTE_CNT pairs, three to each pixel written (R172). -/
def State.EncryptPosition (s : State) : Prop :=
  s.pk.mode = .enc ∧ 3 * s.pk.pixIdx.toNat + s.occ = 4 * s.byteCnt.toNat ∧ 5 + s.size.toNat ≤ s.cap ∧
    s.hdr = completeHeader s.hdr.version s.size

/-- The packer while a decrypt runs: three pairs from each pixel read, four to each byte (R172). -/
def State.DecryptPosition (s : State) : Prop :=
  s.pk.mode = .dec ∧ 4 * s.byteCnt.toNat + s.occ = 3 * s.pk.pixIdx.toNat ∧ s.pk.pixIdx.toNat ≤ s.npix

/-- Where a running operation stands, by PL_STATE (R184 to R192, R197). -/
def State.PipelineConsistent (P : Config.Params) (s : State) : Prop :=
  match s.plState with
  | .idle => True
  | .encHdr => s.EncryptPosition ∧ s.byteCnt.toNat ≤ 4
  | .encPay => s.EncryptPosition ∧ 5 ≤ s.byteCnt.toNat ∧ s.byteCnt.toNat < 5 + s.size.toNat
  | .encFlush => s.EncryptPosition ∧ s.byteCnt.toNat = 5 + s.size.toNat
  | .decHdr =>
    s.DecryptPosition ∧ s.byteCnt.toNat = s.hdr.count.toNat ∧ s.hdr.unsup = false ∧ s.hdr.complete = false
  | .decAlloc =>
    s.DecryptPosition ∧ s.byteCnt.toNat = 5 ∧ s.hdr.complete = true ∧ 5 + sval P s.hdr.size ≤ (s.cap : Int)
  | .decPay =>
    s.DecryptPosition ∧ s.hdr.complete = true ∧ s.outSize = some s.hdr.size.toNat ∧ 5 ≤ s.byteCnt.toNat ∧
      s.byteCnt.toNat < 5 + s.hdr.size.toNat ∧ 5 + s.hdr.size.toNat ≤ s.cap
  | .done => True
  | .failed => True
  | .aborted => True

/-- What holds between any two transitions (R45), for the block's parameters P. -/
structure State.Invariant (P : Config.Params) (s : State) : Prop where
  header : s.hdr.Consistent
  packer : s.pk.Consistent
  seed0 : s.seed0.Consistent
  seed1 : s.seed1.Consistent
  ks0 : s.ks0.Consistent P
  ks1 : s.ks1.Consistent P
  memories : s.MemoriesWf
  outcome : s.OutcomeConsistent
  pipeline : s.PipelineConsistent P

/-! Terms of the statements -/

/-- A host access to PIX, IN or OUT, none of which its duties allow while BUSY (20_memory.md R76,
70_reset_and_hazards.md R258; log entry 10). -/
def Event.barredWhileBusy (e : Event) : Bool :=
  match e with
  | .csrWrite _ _ _ => false
  | .csrRead _ _ => false
  | .pixWrite _ _ => true
  | .pixRead _ => true
  | .inWrite _ _ => true
  | .inRead _ => true
  | .outWrite _ _ => true
  | .outRead _ => true
  | .answerAlloc _ => false
  | .sequencer => false
  | .reset => false

/-- Who moves a transition: the command it submits, the sequencer, or neither (R180). -/
inductive Mover where
  | command (i : Instr)
  | sequencer
  | reset
  | other
deriving DecidableEq, Repr

/-- Who moves at an event. -/
def Event.mover (e : Event) : Mover :=
  match e with
  | .csrWrite off bits v =>
    if off = 0x04 ∧ bits = 32 then
      match decode v with
      | .ok i => .command i
      | .error _ => .other
    else .other
  | .csrRead _ _ => .other
  | .pixWrite _ _ => .other
  | .pixRead _ => .other
  | .inWrite _ _ => .other
  | .inRead _ => .other
  | .outWrite _ _ => .other
  | .outRead _ => .other
  | .answerAlloc _ => .other
  | .sequencer => .sequencer
  | .reset => .reset

/-- Who moves next (R190; log entry 1). -/
def State.mover (s : State) : Mover :=
  match s.schedule with
  | [] => .sequencer
  | e :: _ => e.mover

/-- The arrows of R180 between different states, each with who moves it; a reset leads to IDLE from anywhere (R250). -/
inductive Arrow : PlState → Mover → PlState → Prop where
  | startEncrypt (v : Byte) : Arrow .idle (.command (.plEncrypt v)) .encHdr
  | refuseEncrypt (v : Byte) : Arrow .idle (.command (.plEncrypt v)) .failed
  | startDecrypt : Arrow .idle (.command .plDecrypt) .decHdr
  | refuseDecrypt : Arrow .idle (.command .plDecrypt) .failed
  | headerPacked : Arrow .encHdr .sequencer .encPay
  | emptyPayload : Arrow .encHdr .sequencer .encFlush
  | payloadPacked : Arrow .encPay .sequencer .encFlush
  | flushed : Arrow .encFlush .sequencer .done
  | headerParsed : Arrow .decHdr .sequencer .decAlloc
  | headerFailed : Arrow .decHdr .sequencer .failed
  | allocated : Arrow .decAlloc .sequencer .decPay
  | nothingToRead : Arrow .decAlloc .sequencer .done
  | allocFailed : Arrow .decAlloc .sequencer .failed
  | payloadRead : Arrow .decPay .sequencer .done
  | cancelled (p : PlState) (h : p.isBusy = true) : Arrow p (.command .plCancel) .aborted
  | acknowledged (p : PlState) (h : p.isBusy = false) : Arrow p (.command .plAck) .idle
  | resetToIdle (p : PlState) : Arrow p .reset .idle

/-- The packer functions over a list of bytes, in order (R172). -/
def packBytes (bs : List Byte) (s : State) : State :=
  match bs with
  | [] => s
  | b :: rest => packBytes rest (pkEncByte b s)

/-- n bytes unpacked, in order (R172). -/
def unpackBytes (n : Nat) (s : State) : List Byte × State :=
  match n with
  | 0 => ([], s)
  | n + 1 => ((pkDecByte s).1 :: (unpackBytes n (pkDecByte s).2).1, (unpackBytes n (pkDecByte s).2).2)

/-- n bytes drawn from instance k, in order (R140, R147). -/
def drawBytes (P : Config.Params) (k : KsId) (n : Nat) (s : State) : List Byte :=
  match n with
  | 0 => []
  | n + 1 => (ksNextByte P k s).1 :: drawBytes P k n (ksNextByte P k s).2

/-- n transitions, stopping at the first fault or refusal. -/
def runSteps (n : Nat) (s : State) : Result :=
  match n with
  | 0 => .next s
  | n + 1 =>
    match step s with
    | .next t => runSteps n t
    | .fault f => .fault f
    | .refused r => .refused r

/-- A decrypt started from u and left alone reaches DONE with CODE OK, a header of version v and the given size, and
the bytes f in OUT (R195, R198). -/
def State.Recovers (u : State) (v : Byte) (size : Word) (f : Nat → Byte) : Prop :=
  ∃ s t, exec .plDecrypt u = .next s ∧ runSteps (6 + size.toNat) s = .next t ∧ t.plState = .done ∧ t.code = .ok ∧
    t.hdr.version = v ∧ t.hdr.size = size ∧ ∀ i, i < size.toNat → t.output.read i = f i

/-- The header bytes of R112, in order. -/
def headerBytes (h : Header) : List Byte := [hdrBuf h 0, hdrBuf h 1, hdrBuf h 2, hdrBuf h 3, hdrBuf h 4]

/-- Header bytes fed to HdrAdd, in order (R111). -/
def addBytes (bs : List Byte) (h : Header) : Header :=
  match bs with
  | [] => h
  | b :: rest => addBytes rest (hdrAdd b h)

end Sys2Proof.Machine

namespace Sys2Proof

/-- The commands that R103 calls primitive. -/
def Instr.primitive (i : Instr) : Bool :=
  match i with
  | .nop => false
  | .seedPush _ _ => true
  | .seedClear _ => true
  | .ksSeed _ => true
  | .ksBit _ => true
  | .ksByte _ => true
  | .ksXor _ _ => true
  | .hdrNew => true
  | .hdrAdd _ => true
  | .hdrSet _ => true
  | .hdrByte _ => true
  | .pkReset => true
  | .pkEncByte _ => true
  | .pkEncFlush => true
  | .pkDecByte => true
  | .plEncrypt _ => false
  | .plDecrypt => false
  | .plCancel => false
  | .plAck => false

/-- The commands that yield a byte in RESULT (10_state.md R29, R103). -/
def Instr.yieldsByte (i : Instr) : Bool :=
  match i with
  | .nop => false
  | .seedPush _ _ => false
  | .seedClear _ => false
  | .ksSeed _ => false
  | .ksBit _ => true
  | .ksByte _ => true
  | .ksXor _ _ => true
  | .hdrNew => false
  | .hdrAdd _ => false
  | .hdrSet _ => false
  | .hdrByte _ => true
  | .pkReset => false
  | .pkEncByte _ => false
  | .pkEncFlush => false
  | .pkDecByte => true
  | .plEncrypt _ => false
  | .plDecrypt => false
  | .plCancel => false
  | .plAck => false

end Sys2Proof
end

