-- ==== Sys2Proof/Certificates/Slice0/Obligations.lean ====
section
/-! DEFINITION. The statements for the provers. Each docstring names the rule of spec/ it formalises. -/

open Sys2Proof Sys2Proof.Machine

/-! Encoding -/

/-- Words written out from the fields of R83, and words R84 calls illegal. -/
def Obligations.SpecWordsDecodeAsTheMapSays : Prop :=
  decode 0x00000000 = .ok .nop ∧ decode 0x010001AB = .ok (.seedPush .ks1 0xAB) ∧
  decode 0x06000166 = .ok (.ksXor .ks1 0x66) ∧ decode 0x13000004 = .ok (.hdrByte 4) ∧
  decode 0x210000FF = .ok (.pkEncByte 0xFF) ∧ decode 0x30000001 = .ok (.plEncrypt 1) ∧
  decode 0x33000000 = .ok .plAck ∧
  (decode 0x00000001).toOption = none ∧ (decode 0x07000000).toOption = none ∧
  (decode 0x10000100).toOption = none ∧ (decode 0x01000200).toOption = none ∧
  (decode 0x13000005).toOption = none ∧ (decode 0x30000100).toOption = none ∧ (decode 0xFFFFFFFF).toOption = none

/-- Decoding the word of a well-formed command gives the command back, for every operand (R83, R86). -/
def Obligations.DecodeOfEncodeIsTheCommand : Prop :=
  ∀ i : Instr, i.wellFormed = true → decode (encode i) = .ok i

/-- A word that decodes is the one encoding of its command: no bit of a legal word is dropped (R80, R86). -/
def Obligations.EveryLegalWordIsItsCommandsEncoding : Prop :=
  ∀ (w : Word) (i : Instr), decode w = .ok i → i.wellFormed = true ∧ encode i = w

/-- The decode function of R86 and the match and mask table of R83 give the same commands. -/
def Obligations.DecodeAgreesWithMatchAndMask : Prop :=
  (∀ (w : Word) (i : Instr), decode w = .ok i → ∃ r ∈ opcodeMap, r.covers w = true ∧ r.mnemonic = i.mnemonic) ∧
  (∀ (w : Word), ∀ r ∈ opcodeMap, r.covers w = true → ∃ i, decode w = .ok i ∧ i.mnemonic = r.mnemonic)

/-- "The masks make the rows disjoint, so at most one row matches" (R83). -/
def Obligations.OpcodeRowsAreDisjoint : Prop :=
  ∀ (w : Word), ∀ r ∈ opcodeMap, ∀ q ∈ opcodeMap, w &&& r.mask = r.matchWord → w &&& q.mask = q.matchWord → r = q

/-! Command processing -/

/-- A CMD write of a legal word runs the command, with the write taken off the schedule (R100). Any other event is
performed in the same way, and with nothing scheduled the sequencer has its turn (R190; log entry 1). -/
def Obligations.StepRunsTheSubmittedCommand : Prop :=
  (∀ (s : State) (w : Word) (i : Instr) (rest : List Event),
    s.schedule = .csrWrite 0x04 32 w :: rest → decode w = .ok i → step s = exec i { s with schedule := rest }) ∧
  (∀ (s : State) (e : Event) (rest : List Event), s.schedule = e :: rest →
    step s = perform e { s with schedule := rest }) ∧
  (∀ s : State, s.schedule = [] → step s = sequencerStep Config.params s)

/-- An illegal word gives ILLEGAL_COMMAND in IDLE and a rejection elsewhere, and nothing else (R102). -/
def Obligations.IllegalWordOnlyMarks : Prop :=
  ∀ (s : State) (w : Word) (e : Illegal), s.faultedBy = none → decode w = .error e →
    csrWrite 0x04 32 w s = .next (if s.plState = .idle then { s with code := .illegalCommand }
      else { s with rej := true })

/-- The gating table, and the rejection of what it does not permit (R101). -/
def Obligations.CommandsOutsideTheGateAreRejected : Prop :=
  (∀ (i : Instr) (p : PlState), permitted i p = true ↔
    p = .idle ∨ i = .nop ∨ i = .plCancel ∨ (i = .plAck ∧ (p = .done ∨ p = .failed ∨ p = .aborted))) ∧
  (∀ (i : Instr) (s : State), s.faultedBy = none → permitted i s.plState = false →
    exec i s = .next { s with rej := true })

/-- A faulted model takes no further step: no command, no host access and no sequencer step has an effect; the
schedule, the model's own, still advances. A reset leaves the state, and the host may still make up its mind about
`HostAlloc` (R227; log entries 1, 3, 13). -/
def Obligations.FaultedModelNeverMoves : Prop :=
  ∀ (s : State) (r : CsrFault), s.faultedBy = some r →
    (∀ i : Instr, exec i s = .next s) ∧
    (∀ (e : Event) (rest : List Event), s.schedule = e :: rest → e ≠ .reset → (∀ g, e ≠ .answerAlloc g) →
      step s = .next { s with schedule := rest }) ∧
    (s.schedule = [] → step s = .next s)

/-- A misaligned or partial access faults the model, and so does one outside the window; misaligned comes first
(R60, R226). -/
def Obligations.BadRegisterAccessFaultsTheModel : Prop :=
  ∀ (s : State) (off bits : Nat) (v : Word) (rest : List Event), s.faultedBy = none →
    (s.schedule = .csrWrite off bits v :: rest ∨ s.schedule = .csrRead off bits :: rest) →
    (bits ≠ 32 ∨ off % 4 ≠ 0 → step s = .next { s with schedule := rest, faultedBy := some .misalignedCsr }) ∧
    (bits = 32 → off % 4 = 0 → 0x100 ≤ off →
      step s = .next { s with schedule := rest, faultedBy := some .csrOutOfWindow })

/-- Writes to CTRL, IMG_DIM and SIZE outside IDLE are rejected; writes to read-only and reserved registers change
nothing; a faulted model ignores the write; a read changes no state of the block (R105). `busData`, the model's own
record of what the host was handed, is the one field a read may change (log entry 11). -/
def Obligations.RegisterWritesNeedIdle : Prop :=
  (∀ (s : State) (off : Nat) (v : Word), s.faultedBy = none → off % 4 = 0 → off < 0x100 → off ≠ 0x04 →
    csrWrite off 32 v s = .next (
      if off = 0x0C ∨ off = 0x14 ∨ off = 0x18 then
        if s.plState ≠ .idle then { s with rej := true }
        else if off = 0x0C then { s with maskEn := v.getLsbD 0 }
        else if off = 0x14 then { s with width := v.extractLsb' 0 16, height := v.extractLsb' 16 16 }
        else { s with size := v }
      else s)) ∧
  (∀ (s : State) (off : Nat) (v : Word), s.faultedBy ≠ none → csrWrite off 32 v s = .next s) ∧
  (∀ (s : State) (off : Nat), off % 4 = 0 → off < 0x100 →
    csrRead off 32 s = .next { s with busData := if s.faultedBy = none then some (csrValue s off) else s.busData })

/-- The fields of STATUS with the ten values of PL_STATE and the thirteen of CODE written out, and their reset values
(R27, R28, R221). -/
def Obligations.StatusFieldsStandWhereTheMapPutsThem : Prop :=
  csrValue State.reset 0x08 = 0 ∧ ∀ s : State,
    (csrValue s 0x08).getLsbD 0 = decide (s.plState ∈ [.encHdr, .encPay, .encFlush, .decHdr, .decAlloc, .decPay]) ∧
    (csrValue s 0x08).extractLsb' 1 3 = 0 ∧
    (csrValue s 0x08).extractLsb' 4 4 =
      (match s.plState with
        | .idle => 0 | .encHdr => 1 | .encPay => 2 | .encFlush => 3 | .decHdr => 4
        | .decAlloc => 5 | .decPay => 6 | .done => 7 | .failed => 8 | .aborted => 9) ∧
    (csrValue s 0x08).extractLsb' 8 8 =
      (match s.code with
        | .ok => 0x00 | .unsupportedHeaderVersion => 0x01 | .payloadTooLarge => 0x02 | .allocationOverflow => 0x03
        | .imageTooSmall => 0x04 | .invalidSeed => 0x05 | .aborted => 0x06 | .legacyUnsupported => 0x07
        | .illegalCommand => 0x08 | .ksNotSeeded => 0x09 | .imageExhausted => 0x0A | .pixelRange => 0x0B
        | .pkDirection => 0x0C) ∧
    (csrValue s 0x08).getLsbD 16 = s.ks0.valid ∧ (csrValue s 0x08).getLsbD 17 = s.ks1.valid ∧
    (csrValue s 0x08).getLsbD 18 = decide (s.psel = .ks1) ∧ (csrValue s 0x08).extractLsb' 19 12 = 0 ∧
    (csrValue s 0x08).getLsbD 31 = s.rej

/-- The fields of HDR_STAT, HDR_SIZE and PK_STAT, with NONE = 0, ENC = 1 and DEC = 2 (R32, R33). -/
def Obligations.HeaderAndPackerFieldsStandWhereTheMapPutsThem : Prop :=
  ∀ s : State,
    (csrValue s 0x1C).extractLsb' 0 8 = s.hdr.version ∧ (csrValue s 0x1C).extractLsb' 8 3 = s.hdr.count ∧
    (csrValue s 0x1C).getLsbD 11 = s.hdr.complete ∧ (csrValue s 0x1C).getLsbD 12 = s.hdr.unsup ∧
    (csrValue s 0x1C).extractLsb' 13 3 = 0 ∧ (csrValue s 0x1C).extractLsb' 16 4 = s.hdr.hsize ∧
    (csrValue s 0x1C).extractLsb' 20 12 = 0 ∧ csrValue s 0x20 = s.hdr.size ∧
    (csrValue s 0x24).extractLsb' 0 3 = BitVec.ofNat 3 s.pk.q.length ∧ (csrValue s 0x24).getLsbD 3 = false ∧
    (∀ j : Fin 6, (csrValue s 0x24).extractLsb' (4 + 2 * j.val) 2 = s.pk.q.getD j.val 0) ∧
    (csrValue s 0x24).extractLsb' 16 2 = (match s.pk.mode with | .unset => 0 | .enc => 1 | .dec => 2) ∧
    (csrValue s 0x24).extractLsb' 18 14 = 0

/-- Every other offset of the window, in every state: the banks LFSR_k_i, TAP_k_i and SEEDW_k_w, SEED_STAT, ID, CMD,
CTRL, RESULT, IMG_DIM, SIZE, PIX_IDX, BYTE_CNT, and 0 at the reserved offsets (R23 to R26, R29 to R31, R34 to R37).
STATUS, HDR_STAT, HDR_SIZE and PK_STAT are the two statements before this one. -/
def Obligations.BankRegistersReadTheirElements : Prop :=
  ∀ s : State,
    (∀ i : Fin 5, csrValue s (0x40 + 4 * i.val) = s.ks0.lfsr[i] ∧ csrValue s (0x40 + 4 * (5 + i.val)) = s.ks1.lfsr[i] ∧
      csrValue s (0x70 + 4 * i.val) = s.ks0.tap[i] ∧ csrValue s (0x70 + 4 * (5 + i.val)) = s.ks1.tap[i]) ∧
    (∀ (w j : Fin 4),
      (csrValue s (0xA0 + 4 * w.val)).extractLsb' (8 * j.val) 8 = s.seed0.buf[4 * w.val + j.val]'(by omega) ∧
      (csrValue s (0xB0 + 4 * w.val)).extractLsb' (8 * j.val) 8 = s.seed1.buf[4 * w.val + j.val]'(by omega)) ∧
    (csrValue s 0x30).extractLsb' 0 5 = s.seed0.cnt ∧ (csrValue s 0x30).extractLsb' 5 3 = 0 ∧
    (csrValue s 0x30).extractLsb' 8 5 = s.seed1.cnt ∧ (csrValue s 0x30).extractLsb' 13 19 = 0 ∧
    csrValue s 0x00 = 0x44454C46 ∧ csrValue s 0x04 = 0 ∧
    (csrValue s 0x0C).getLsbD 0 = s.maskEn ∧ (csrValue s 0x0C).extractLsb' 1 31 = 0 ∧
    (csrValue s 0x10).extractLsb' 0 8 = s.result ∧ (csrValue s 0x10).extractLsb' 8 24 = 0 ∧
    (csrValue s 0x14).extractLsb' 0 16 = s.width ∧ (csrValue s 0x14).extractLsb' 16 16 = s.height ∧
    csrValue s 0x18 = s.size ∧ csrValue s 0x28 = s.pk.pixIdx ∧ csrValue s 0x2C = s.byteCnt ∧
    ∀ off, off % 4 = 0 → off < 0x100 →
      off ∈ [0x34, 0x38, 0x3C, 0x68, 0x6C, 0x98, 0x9C] ∨ 0xC0 ≤ off → csrValue s off = 0

/-- The result conventions of the primitive commands (R103): an error changes CODE alone, success writes OK, only the
byte-yielding commands write RESULT, and PL_STATE, REJ, PSEL and BYTE_CNT never change. -/
def Obligations.PrimitiveCommandsKeepTheResultConventions : Prop :=
  ∀ (i : Instr) (s : State), i.primitive = true → i.wellFormed = true → s.Ready →
    ∃ t, exec i s = .next t ∧ (t.code = .ok ∨ t = { s with code := t.code }) ∧
      (i.yieldsByte = false → t.result = s.result) ∧
      t.plState = s.plState ∧ t.rej = s.rej ∧ t.psel = s.psel ∧ t.byteCnt = s.byteCnt

/-- NOP changes no state, in any state (R104). -/
def Obligations.NopChangesNothing : Prop :=
  decode 0x00000000 = .ok .nop ∧ (decode 0x00000001).toOption = none ∧ ∀ s : State, exec .nop s = .next s

/-! Seeds and keystream -/

/-- SEED_PUSH k, b appends b while fewer than 16 bytes are staged; the 17th and later set the count to 17, and only
SEED_CLEAR k or reset leaves that count (R132). -/
def Obligations.SeedPushStagesOneByte : Prop :=
  (∀ (k : KsId) (s t : State), step s = .next t → (s.seed k).cnt = 17 → (t.seed k).cnt ≠ 17 →
    s.mover = .command (.seedClear k) ∨ s.mover = .reset) ∧
  ∀ (k : KsId) (b : Byte),
    decode (0x01000000 ||| (if k = .ks1 then 0x100 else 0) ||| b.setWidth 32) = .ok (.seedPush k b) ∧
    ∀ s : State, s.Ready →
      ∃ t, exec (.seedPush k b) s = .next t ∧
        (t.seed k).cnt = (if (s.seed k).cnt.toNat < 16 then (s.seed k).cnt + 1 else 17) ∧
        (∀ j : Fin 16, (t.seed k).buf[j] = if (s.seed k).cnt.toNat = j.val then b else (s.seed k).buf[j]) ∧
        (∀ k', k' ≠ k → t.seed k' = s.seed k') ∧
        t = { s with seed0 := t.seed0, seed1 := t.seed1, code := .ok }

/-- SEED_CLEAR k empties the staging buffer and leaves the instance alone (R133). -/
def Obligations.SeedClearEmptiesTheBuffer : Prop :=
  ∀ k : KsId,
    decode (0x02000000 ||| (if k = .ks1 then 0x100 else 0)) = .ok (.seedClear k) ∧
    ∀ s : State, s.Ready →
      ∃ t, exec (.seedClear k) s = .next t ∧ (t.seed k).cnt = 0 ∧ (∀ j : Fin 16, (t.seed k).buf[j] = 0) ∧
        (∀ k', k' ≠ k → t.seed k' = s.seed k') ∧
        t = { s with seed0 := t.seed0, seed1 := t.seed1, code := .ok }

/-- KS_SEED k builds the instance from 16 staged bytes, a zero register forced to 1, and fails with INVALID_SEED on any
other count (R135, R142). -/
def Obligations.KsSeedConstructsTheInstance : Prop :=
  ∀ (k : KsId) (s : State), s.Ready →
    ((s.seed k).cnt = 16 →
      ∃ t, exec (.ksSeed k) s = .next t ∧ (t.ks k).valid = true ∧
        (∀ i : Fin 5,
          (t.ks k).lfsr[i] = (if (Config.params.seedSlice (s.seed k).buf).init i = 0 then 1
            else ((Config.params.seedSlice (s.seed k).buf).init i).setWidth 32) ∧
          (t.ks k).tap[i] = Config.params.tapTab i ((Config.params.seedSlice (s.seed k).buf).idx i)) ∧
        (∀ k', k' ≠ k → t.ks k' = s.ks k') ∧
        (t.lseed, t.lpos) =
          (if k = .ks0 ∧ Config.params.ks0Algo = .legacy then (s.seed0.buf, 0) else (s.lseed, s.lpos)) ∧
        t = { s with ks0 := t.ks0, ks1 := t.ks1, lseed := t.lseed, lpos := t.lpos, code := .ok }) ∧
    ((s.seed k).cnt ≠ 16 → exec (.ksSeed k) s = .next { s with code := .invalidSeed })

/-- KS_BIT k clocks all five registers and yields the XOR of their new low bits; it is ILLEGAL_COMMAND for instance 0
under KS0_ALGO = LEGACY and KS_NOT_SEEDED before construction (R138, R143). -/
def Obligations.KsBitClocksEveryRegister : Prop :=
  ∀ (k : KsId) (s : State), s.Ready →
    ∃ t, exec (.ksBit k) s = .next t ∧
      if k = .ks0 ∧ Config.params.ks0Algo = .legacy then t = { s with code := .illegalCommand }
      else if (s.ks k).valid = false then t = { s with code := .ksNotSeeded }
      else
        (∀ i : Fin 5, (t.ks k).lfsr[i] =
          if (s.ks k).lfsr[i].getLsbD 0 = true then ((s.ks k).lfsr[i] >>> 1) ^^^ (s.ks k).tap[i]
          else (s.ks k).lfsr[i] >>> 1) ∧
        t.result = (if ((t.ks k).lfsr[0].getLsbD 0 ^^ (t.ks k).lfsr[1].getLsbD 0 ^^ (t.ks k).lfsr[2].getLsbD 0 ^^
          (t.ks k).lfsr[3].getLsbD 0 ^^ (t.ks k).lfsr[4].getLsbD 0) = true then 1 else 0) ∧
        (t.ks k).tap = (s.ks k).tap ∧ (t.ks k).valid = true ∧
        (∀ k', k' ≠ k → t.ks k' = s.ks k') ∧
        t = { s with ks0 := t.ks0, ks1 := t.ks1, result := t.result, code := .ok }

/-- A keystream byte is eight ticks, the first bit in bit 7 (R140). -/
def Obligations.KeystreamByteIsEightTicksMsbFirst : Prop :=
  ∀ x : Keystream,
    x.nextByte.2 = Keystream.tick^[8] x ∧
    ∀ n : Nat, n < 8 → x.nextByte.1.getLsbD (7 - n) = (Keystream.tick^[n] x).tickBit

/-- KS_BYTE k draws one byte, KS_XOR k, b the same byte XOR b, and nothing else changes (R141, R144, R145). -/
def Obligations.KsByteAndKsXorDrawOneByte : Prop :=
  ∀ (k : KsId) (b : Byte) (s : State), s.Ready → (s.ks k).valid = true →
    ∃ t, exec (.ksByte k) s = .next t ∧ exec (.ksXor k b) s = .next { t with result := b ^^^ t.result } ∧
      (if k = .ks0 ∧ Config.params.ks0Algo = .legacy then
        t = { s with result := Config.params.legacyKs s.lseed s.lpos, lpos := s.lpos + 1, code := .ok }
      else
        t.result = (s.ks k).nextByte.1 ∧ t.ks k = (s.ks k).nextByte.2 ∧ (∀ k', k' ≠ k → t.ks k' = s.ks k') ∧
        t = { s with ks0 := t.ks0, ks1 := t.ks1, result := t.result, code := .ok })

/-- KS_BYTE and KS_XOR on an instance that has not been constructed fail with KS_NOT_SEEDED (R144, R145). -/
def Obligations.UnseededInstanceYieldsNoByte : Prop :=
  ∀ (k : KsId) (b : Byte) (s : State), s.Ready → (s.ks k).valid = false →
    exec (.ksByte k) s = .next { s with code := .ksNotSeeded } ∧
    exec (.ksXor k b) s = .next { s with code := .ksNotSeeded }

/-- "from equal instance states, the masks of b and then of b ^ KsNextByte cancel" (R145). -/
def Obligations.KsXorFromEqualStatesUnmasks : Prop :=
  ∀ (k : KsId) (b : Byte) (s t u v : State), s.Ready → u.Ready → (s.ks k).valid = true →
    u.ks k = s.ks k → u.lseed = s.lseed → u.lpos = s.lpos →
    exec (.ksXor k b) s = .next t → exec (.ksXor k t.result) u = .next v → v.result = b

/-- Under TAPTAB_WF every register lies in [1, 2^WID[i]) after construction and after every tick (R146). -/
def Obligations.RegistersStayNonZeroUnderAWellFormedTable : Prop :=
  ∀ (P : Config.Params), P.TapTabWf → ∀ (sl : Config.Slice) (n : Nat) (i : Fin 5),
    1 ≤ (Keystream.tick^[n] (constructed P sl)).lfsr[i].toNat ∧
      (Keystream.tick^[n] (constructed P sl)).lfsr[i].toNat < 2 ^ Config.wid i

/-- Two instances constructed from equal seeds produce equal byte sequences of every length, with KS0_ALGO = LFSR
(R147). -/
def Obligations.EqualSeedsGiveEqualByteSequences : Prop :=
  ∀ (P : Config.Params) (s u : State) (n : Nat), P.ks0Algo = .lfsr → s.seed0.buf = u.seed1.buf →
    drawBytes P .ks0 n (construct P .ks0 s) = drawBytes P .ks1 n (construct P .ks1 u)

/-! Header codec -/

/-- HDR_NEW empties the header (R110, R113). -/
def Obligations.HdrNewEmptiesTheHeader : Prop :=
  decode 0x10000000 = .ok .hdrNew ∧
  (∀ s : State, s.Ready → exec .hdrNew s = .next { s with
    hdr := { version := 0, size := 0, count := 0, complete := false, unsup := false, hsize := 0 }, code := .ok }) ∧
  (∀ s : State, s.faultedBy = none → s.plState ≠ .idle → exec .hdrNew s = .next { s with rej := true })

/-- HDR_ADD b feeds one byte to the parser (R111). -/
def Obligations.HdrAddFeedsOneByte : Prop :=
  ∀ (b : Byte) (s : State), s.Ready → exec (.hdrAdd b) s = .next { s with
    code := .ok
    hdr := if s.hdr.unsup = true ∨ s.hdr.complete = true then s.hdr
      else if s.hdr.count = 0 then { s.hdr with version := b, count := 1, unsup := decide (1 < b.toNat) }
      else { s.hdr with
        size := (s.hdr.size <<< 8) ||| b.setWidth 32
        count := s.hdr.count + 1
        complete := decide (s.hdr.count + 1 = 5)
        hsize := if s.hdr.count + 1 = 5 then 5 else s.hdr.hsize } }

/-- HDR_SET v builds a complete header from v and SIZE, and refuses a version above 1 (R115). -/
def Obligations.HdrSetBuildsACompleteHeader : Prop :=
  ∀ v : Byte, decode (0x12000000 ||| v.setWidth 32) = .ok (.hdrSet v) ∧
    ∀ s : State, s.Ready → exec (.hdrSet v) s = .next (
      if 1 < v.toNat then { s with code := .unsupportedHeaderVersion }
      else { s with code := .ok, hdr :=
        { version := v, size := s.size, count := 5, complete := true, unsup := false, hsize := 5 } })

/-- HDR_BYTE j reads byte j of the serialised header, whether or not it is complete; j above 4 is illegal; the size of
an unsupported header is 0 (R112, R116). -/
def Obligations.HdrByteReadsTheSerialisedHeader : Prop :=
  (∀ s : State, s.Ready →
    exec (.hdrByte 0) s = .next { s with code := .ok, result := s.hdr.version } ∧
    exec (.hdrByte 1) s = .next { s with code := .ok, result := s.hdr.size.extractLsb' 24 8 } ∧
    exec (.hdrByte 2) s = .next { s with code := .ok, result := s.hdr.size.extractLsb' 16 8 } ∧
    exec (.hdrByte 3) s = .next { s with code := .ok, result := s.hdr.size.extractLsb' 8 8 } ∧
    exec (.hdrByte 4) s = .next { s with code := .ok, result := s.hdr.size.extractLsb' 0 8 }) ∧
  (∀ j : Byte, j.toNat ≤ 4 → decode (0x13000000 ||| j.setWidth 32) = .ok (.hdrByte j)) ∧
  (∀ j : Byte, 4 < j.toNat → (decode (0x13000000 ||| j.setWidth 32)).toOption = none) ∧
  (∀ h : Header, h.Consistent → h.unsup = true → h.size = 0)

/-- A complete header of a supported version, serialised and fed to a fresh parser, is reconstructed after exactly five
bytes and not before (R117). -/
def Obligations.HeaderRoundTripTakesFiveBytes : Prop :=
  ∀ h : Header, h.complete = true → h.version.toNat ≤ 1 →
    (addBytes (headerBytes h) Header.empty).version = h.version ∧
    (addBytes (headerBytes h) Header.empty).size = h.size ∧
    (addBytes (headerBytes h) Header.empty).complete = true ∧
    (addBytes (headerBytes h) Header.empty).unsup = false ∧
    ∀ n : Nat, n < 5 → (addBytes ((headerBytes h).take n) Header.empty).complete = false

/-! Pixel packer -/

/-- PK_RESET starts a fresh pair buffer at pixel 0 (R160, R168). -/
def Obligations.PkResetStartsAfresh : Prop :=
  decode 0x20000000 = .ok .pkReset ∧
  ∀ s : State, s.Ready →
    exec .pkReset s = .next { s with pk := { q := [], mode := .unset, pixIdx := 0 }, code := .ok }

/-- PK_ENC_BYTE b: the buffered pairs and the byte's four pairs, most significant first, go three to a pixel into the
next `need_enc` pixels; the rest stay buffered; every byte of PIX outside those pixels is as before (R161, R163,
R169). The bound on PK.OCC is R45's. -/
def Obligations.PkEncByteWritesTheNextPixels : Prop :=
  ∀ (b : Byte) (s : State), s.Ready → s.pk.mode ≠ .dec → s.occ ≤ 2 →
    s.pk.pixIdx.toNat + needEnc s.occ ≤ s.width.toNat * s.height.toNat →
    ∃ t, exec (.pkEncByte b) s = .next t ∧
      t = { s with code := .ok, pix := t.pix, pk := t.pk } ∧ t.pk.mode = .enc ∧
      t.pk.pixIdx.toNat = s.pk.pixIdx.toNat + needEnc s.occ ∧
      t.pk.q = (s.pk.q ++ pairsOfByte b).drop (3 * needEnc s.occ) ∧
      (∀ n, n < needEnc s.occ → t.pix.readPixel (s.pk.pixIdx.toNat + n) =
        pixMerge (s.pix.readPixel (s.pk.pixIdx.toNat + n)) ((s.pk.q ++ pairsOfByte b).getD (3 * n) 0)
          ((s.pk.q ++ pairsOfByte b).getD (3 * n + 1) 0) ((s.pk.q ++ pairsOfByte b).getD (3 * n + 2) 0)) ∧
      ∀ a, a < 4 * s.pk.pixIdx.toNat ∨ 4 * (s.pk.pixIdx.toNat + needEnc s.occ) ≤ a → t.pix.read a = s.pix.read a

/-- PK_ENC_FLUSH: the pairs left are padded with zero pairs and written to one pixel; an empty buffer writes nothing
(R164, R170). -/
def Obligations.PkEncFlushWritesTheLastPixel : Prop :=
  ∀ s : State, s.Ready → s.pk.mode ≠ .dec → s.occ ≤ 2 →
    s.pk.pixIdx.toNat + needFlush s.occ ≤ s.width.toNat * s.height.toNat →
    ∃ t, exec .pkEncFlush s = .next t ∧
      t = { s with code := .ok, pix := t.pix, pk := t.pk } ∧ t.pk.mode = .enc ∧ t.pk.q = [] ∧
      t.pk.pixIdx.toNat = s.pk.pixIdx.toNat + needFlush s.occ ∧
      (s.pk.q ≠ [] → t.pix.readPixel s.pk.pixIdx.toNat =
        pixMerge (s.pix.readPixel s.pk.pixIdx.toNat) (s.pk.q.getD 0 0) (s.pk.q.getD 1 0) 0) ∧
      ∀ a, a < 4 * s.pk.pixIdx.toNat ∨ 4 * (s.pk.pixIdx.toNat + needFlush s.occ) ≤ a → t.pix.read a = s.pix.read a

/-- PK_DEC_BYTE: the pairs of the next `need_dec` pixels, R then G then B, are appended to the buffer and the four
oldest pairs make the byte; PIX is not written (R162, R165, R171). From an empty buffer two pixels are read, also at the
fourth call after PK_RESET (log entry 23). -/
def Obligations.PkDecByteReadsTheNextPixels : Prop :=
  ∀ s : State, s.Ready → s.pk.mode ≠ .enc → s.occ ≤ 2 →
    s.pk.pixIdx.toNat + needDec s.occ ≤ s.width.toNat * s.height.toNat →
    ∃ t, exec .pkDecByte s = .next t ∧
      t = { s with code := .ok, result := t.result, pk := t.pk } ∧ t.pk.mode = .dec ∧
      t.pk.pixIdx.toNat = s.pk.pixIdx.toNat + needDec s.occ ∧
      (let all := s.pk.q ++ (List.range (needDec s.occ)).flatMap fun n =>
          pixPairs (s.pix.readPixel (s.pk.pixIdx.toNat + n))
       t.pk.q = all.drop 4 ∧
       t.result.extractLsb' 6 2 = all.getD 0 0 ∧ t.result.extractLsb' 4 2 = all.getD 1 0 ∧
       t.result.extractLsb' 2 2 = all.getD 2 0 ∧ t.result.extractLsb' 0 2 = all.getD 3 0)

/-- The packer's errors: the wrong direction first, then a missing pixel; either changes CODE alone (R166, R167, R169
to R171). That a flush of an empty buffer gives PIXEL_RANGE when PIX_IDX lies above W*H is the model's choice between the
pseudocode and the corner case of R170 (log entry 20). -/
def Obligations.PackerErrorsChangeOnlyCode : Prop :=
  ∀ (b : Byte) (s : State), s.Ready →
    (s.pk.mode = .dec → exec (.pkEncByte b) s = .next { s with code := .pkDirection } ∧
      exec .pkEncFlush s = .next { s with code := .pkDirection }) ∧
    (s.pk.mode = .enc → exec .pkDecByte s = .next { s with code := .pkDirection }) ∧
    (s.pk.mode ≠ .dec → s.width.toNat * s.height.toNat < s.pk.pixIdx.toNat + (s.occ + 4) / 3 →
      exec (.pkEncByte b) s = .next { s with code := .pixelRange }) ∧
    (s.pk.mode ≠ .dec → 0 < s.occ → s.width.toNat * s.height.toNat < s.pk.pixIdx.toNat + 1 →
      exec .pkEncFlush s = .next { s with code := .pixelRange }) ∧
    (s.pk.mode ≠ .dec → s.occ = 0 → s.width.toNat * s.height.toNat < s.pk.pixIdx.toNat →
      exec .pkEncFlush s = .next { s with code := .pixelRange }) ∧
    (s.pk.mode ≠ .enc →
      s.width.toNat * s.height.toNat < s.pk.pixIdx.toNat + (if 4 ≤ s.occ then 0 else if 4 ≤ s.occ + 3 then 1 else 2) →
      exec .pkDecByte s = .next { s with code := .pixelRange })

/-- PixPairs reads R, G, B in that order, PixMerge changes only bits [25:24], [17:16] and [9:8], and PixPairs reads back
what it wrote (R61, R161, R162). -/
def Obligations.PixMergeChangesOnlyTheLowPairs : Prop :=
  ∀ (v : Word) (p0 p1 p2 : Pair),
    (∀ i, i < 32 → i ≠ 8 → i ≠ 9 → i ≠ 16 → i ≠ 17 → i ≠ 24 → i ≠ 25 →
      (pixMerge v p0 p1 p2).getLsbD i = v.getLsbD i) ∧
    pixPairs v = [v.extractLsb' 24 2, v.extractLsb' 16 2, v.extractLsb' 8 2] ∧
    pixPairs (pixMerge v p0 p1 p2) = [p0, p1, p2]

/-- Decoding N bytes from the pixels that packing N bytes wrote returns the N bytes (R172, Symmetry). -/
def Obligations.UnpackingPackedBytesReturnsThem : Prop :=
  ∀ (bs : List Byte) (s : State), s.pk = Packer.fresh → 4 * bs.length ≤ 3 * s.npix →
    (unpackBytes bs.length { pkEncFlush (packBytes bs s) with pk := Packer.fresh }).1 = bs

/-- Packing N bytes and flushing writes the pixels below ceil(4N/3) and no other, and only the low two bits of their
R, G and B (R172, Pixel counts, Bits changed). -/
def Obligations.PackingTouchesOnlyTheFirstPixels : Prop :=
  ∀ (bs : List Byte) (s : State), s.pk = Packer.fresh → 4 * bs.length ≤ 3 * s.npix →
    (pkEncFlush (packBytes bs s)).pk.pixIdx.toNat = (4 * bs.length + 2) / 3 ∧
    (∀ p, (pkEncFlush (packBytes bs s)).pix.readPixel p &&& 0xFCFCFCFF = s.pix.readPixel p &&& 0xFCFCFCFF) ∧
    ∀ p, (4 * bs.length + 2) / 3 ≤ p → (pkEncFlush (packBytes bs s)).pix.readPixel p = s.pix.readPixel p

/-! Pipeline commands -/

/-- PL_ENCRYPT v: the start checks in their order, each failing the operation with CODE and PL_STATE alone, and then
the set-up of the operation (R184). -/
def Obligations.PlEncryptChecksThenStarts : Prop :=
  ∀ v : Byte, decode (0x30000000 ||| v.setWidth 32) = .ok (.plEncrypt v) ∧
    ∀ s : State, s.Ready →
      ∃ t, exec (.plEncrypt v) s = .next t ∧
        if 1 < v.toNat then t = { s with code := .unsupportedHeaderVersion, plState := .failed }
        else if s.maskEn = true ∧ s.seed0.cnt ≠ 16 then t = { s with code := .invalidSeed, plState := .failed }
        else if s.maskEn = true ∧ v = 1 ∧ s.seed1.cnt ≠ 16 then t = { s with code := .invalidSeed, plState := .failed }
        else if s.maskEn = true ∧ v = 0 ∧ Config.params.v0Policy = .reject then
          t = { s with code := .legacyUnsupported, plState := .failed }
        else if s.width.toNat * s.height.toNat * 3 / 4 < 5 + s.size.toNat then
          t = { s with code := .imageTooSmall, plState := .failed }
        else
          t = { s with
            code := .ok
            hdr := { version := v, size := s.size, count := 5, complete := true, unsup := false, hsize := 5 }
            pk := { q := [], mode := .enc, pixIdx := 0 }
            byteCnt := 0
            psel := if v = 1 then .ks1 else .ks0
            plState := .encHdr
            ks0 := if s.maskEn = true then constructed Config.params (Config.params.seedSlice s.seed0.buf) else s.ks0
            ks1 := if s.maskEn = true ∧ v = 1 then constructed Config.params (Config.params.seedSlice s.seed1.buf)
              else s.ks1
            lseed := if s.maskEn = true ∧ Config.params.ks0Algo = .legacy then s.seed0.buf else s.lseed
            lpos := if s.maskEn = true ∧ Config.params.ks0Algo = .legacy then 0 else s.lpos }

/-- The capacity check passes at CAP = 5 + N and fails with IMAGE_TOO_SMALL at CAP = 5 + N - 1, masking or not, once
the checks before it pass (R199). -/
def Obligations.CapacityBoundaryIsExact : Prop :=
  ∀ (v : Byte) (s : State), s.Ready → v.toNat ≤ 1 →
    (s.maskEn = true → s.seed0.cnt = 16 ∧ (v = 1 → s.seed1.cnt = 16) ∧
      (v = 0 → Config.params.v0Policy = .sameStream)) →
    (s.width.toNat * s.height.toNat * 3 / 4 = 5 + s.size.toNat →
      ∃ t, exec (.plEncrypt v) s = .next t ∧ t.plState = .encHdr ∧ t.code = .ok) ∧
    (s.width.toNat * s.height.toNat * 3 / 4 = 5 + s.size.toNat - 1 →
      exec (.plEncrypt v) s = .next { s with code := .imageTooSmall, plState := .failed })

/-- PL_DECRYPT: INVALID_SEED when masking without 16 staged bytes for instance 0, else the set-up (R188). -/
def Obligations.PlDecryptChecksThenStarts : Prop :=
  decode 0x31000000 = .ok .plDecrypt ∧
  ∀ s : State, s.Ready → exec .plDecrypt s = .next (
    if s.maskEn = true ∧ s.seed0.cnt ≠ 16 then { s with code := .invalidSeed, plState := .failed }
    else { s with
      code := .ok
      hdr := { version := 0, size := 0, count := 0, complete := false, unsup := false, hsize := 0 }
      pk := { q := [], mode := .dec, pixIdx := 0 }
      byteCnt := 0
      psel := .ks0
      plState := .decHdr
      ks0 := if s.maskEn = true then constructed Config.params (Config.params.seedSlice s.seed0.buf) else s.ks0
      lseed := if s.maskEn = true ∧ Config.params.ks0Algo = .legacy then s.seed0.buf else s.lseed
      lpos := if s.maskEn = true ∧ Config.params.ks0Algo = .legacy then 0 else s.lpos })

/-- PL_CANCEL ends a busy operation in ABORTED and does nothing otherwise (R193). -/
def Obligations.PlCancelAbortsABusyOperation : Prop :=
  decode 0x32000000 = .ok .plCancel ∧
  ∀ s : State, s.faultedBy = none → exec .plCancel s = .next (
    if s.plState ∈ [.encHdr, .encPay, .encFlush, .decHdr, .decAlloc, .decPay] then
      { s with code := .aborted, plState := .aborted }
    else s)

/-- PL_ACK returns to IDLE and clears CODE and REJ; in the busy states it is rejected (R194). -/
def Obligations.PlAckReturnsToIdle : Prop :=
  decode 0x33000000 = .ok .plAck ∧
  ∀ s : State, s.faultedBy = none → exec .plAck s = .next (
    if s.plState ∈ [.encHdr, .encPay, .encFlush, .decHdr, .decAlloc, .decPay] then { s with rej := true }
    else { s with plState := .idle, code := .ok, rej := false })

/-! Sequencer steps -/

/-- The ENC_HDR step masks header byte BYTE_CNT with instance 0 and packs it (R182, R185). -/
def Obligations.EncHdrStepPacksAHeaderByte : Prop :=
  ∀ s : State, s.SequencerNext → s.plState = .encHdr → s.byteCnt.toNat ≤ 4 →
    s.pk.pixIdx.toNat + needEnc s.occ ≤ s.npix →
    step s = .next (
      let j := s.byteCnt.toNat
      let b := hdrBuf s.hdr j
      let u := if s.maskEn = true then (ksNextByte Config.params .ks0 s).2 else s
      let m := if s.maskEn = true then b ^^^ (ksNextByte Config.params .ks0 s).1 else b
      { pkEncByte m u with
        byteCnt := s.byteCnt + 1
        plState := if j = 4 then (if 0 < s.size.toNat then .encPay else .encFlush) else .encHdr })

/-- The ENC_PAY step masks IN byte BYTE_CNT - 5 with instance PSEL and packs it (R182, R186). -/
def Obligations.EncPayStepPacksAPayloadByte : Prop :=
  ∀ s : State, s.SequencerNext → s.plState = .encPay → 5 ≤ s.byteCnt.toNat →
    s.byteCnt.toNat < 5 + s.size.toNat → 5 + s.size.toNat ≤ s.cap → s.pk.pixIdx.toNat + needEnc s.occ ≤ s.npix →
    step s = .next (
      let b := s.input.read (s.byteCnt.toNat - 5)
      let u := if s.maskEn = true then (ksNextByte Config.params s.psel s).2 else s
      let m := if s.maskEn = true then b ^^^ (ksNextByte Config.params s.psel s).1 else b
      { pkEncByte m u with
        byteCnt := s.byteCnt + 1
        plState := if s.byteCnt.toNat + 1 = 5 + s.size.toNat then .encFlush else .encPay })

/-- The ENC_FLUSH step writes the last partial pixel and ends in DONE with CODE OK (R187). -/
def Obligations.EncFlushStepEndsTheEncrypt : Prop :=
  ∀ s : State, s.SequencerNext → s.plState = .encFlush → s.pk.pixIdx.toNat + needFlush s.occ ≤ s.npix →
    step s = .next { pkEncFlush s with code := .ok, plState := .done }

/-- The DEC_HDR step: IMAGE_EXHAUSTED when the pixels do not exist; else one byte is unpacked, unmasked with instance 0
and parsed, BYTE_CNT counts it, and then the version and the capacity are checked (R189, R223). -/
def Obligations.DecHdrStepParsesAHeaderByte : Prop :=
  ∀ s : State, s.SequencerNext → s.plState = .decHdr →
    (s.npix < s.pk.pixIdx.toNat + needDec s.occ →
      step s = .next { s with code := .imageExhausted, plState := .failed }) ∧
    (s.pk.pixIdx.toNat + needDec s.occ ≤ s.npix →
      ∃ t, step s = .next t ∧
        let b := (pkDecByte s).1
        let d := (pkDecByte s).2
        let u := if s.maskEn = true then (ksNextByte Config.params .ks0 d).2 else d
        let h := hdrAdd (if s.maskEn = true then b ^^^ (ksNextByte Config.params .ks0 d).1 else b) s.hdr
        let sv : Int := if Config.params.sizeSigned = true then h.size.toInt else (h.size.toNat : Int)
        t = { u with
          hdr := h
          byteCnt := s.byteCnt + 1
          plState := if h.unsup = true then .failed
            else if h.complete = true then (if (s.cap : Int) < 5 + sv then .failed else .decAlloc)
            else .decHdr
          code := if h.unsup = true then .unsupportedHeaderVersion
            else if h.complete = true then (if (s.cap : Int) < 5 + sv then .payloadTooLarge else s.code)
            else s.code })

/-- The DEC_ALLOC step: a negative size and a refused `HostAlloc` fail with ALLOCATION_OVERFLOW; a grant gives OUT its
HDR.SIZE bytes, PSEL is written, and then INVALID_SEED or LEGACY_UNSUPPORTED may fail (R191, R223). The answer of
`HostAlloc` is free: the statement holds for both. Three things in it are the model's: the field that holds the answer
(log entry 3); that a grant leaves the bytes of OUT as they were, and is kept after a later failure (log entry 8); and
that every version but 1, not 0 alone, takes the branch of version 0 (log entry 16). -/
def Obligations.DecAllocStepSelectsThePayloadKeystream : Prop :=
  ∀ s : State, s.SequencerNext → s.plState = .decAlloc →
    ∃ t, step s = .next t ∧
      if (Config.params.sizeSigned = true ∧ s.hdr.size.toInt < 0) ∨ s.allocAnswer = false then
        t = { s with code := .allocationOverflow, plState := .failed }
      else if s.hdr.version = 1 ∧ s.maskEn = true ∧ s.seed1.cnt ≠ 16 then
        t = { s with outSize := some s.hdr.size.toNat, psel := .ks1, code := .invalidSeed, plState := .failed }
      else if s.hdr.version ≠ 1 ∧ s.maskEn = true ∧ Config.params.v0Policy = .reject then
        t = { s with outSize := some s.hdr.size.toNat, psel := .ks0, code := .legacyUnsupported, plState := .failed }
      else
        t = { s with
          outSize := some s.hdr.size.toNat
          psel := if s.hdr.version = 1 then .ks1 else .ks0
          ks1 := if s.hdr.version = 1 ∧ s.maskEn = true then
              constructed Config.params (Config.params.seedSlice s.seed1.buf)
            else s.ks1
          code := if s.hdr.size = 0 then .ok else s.code
          plState := if s.hdr.size = 0 then .done else .decPay }

/-- The DEC_PAY step stores one unmasked byte at OUT index BYTE_CNT - 5, leaves every other byte of OUT as it was, does
not write PIX or IN, and ends in DONE at the last byte (R192). -/
def Obligations.DecPayStepStoresAPayloadByte : Prop :=
  ∀ s : State, s.SequencerNext → s.plState = .decPay → 5 ≤ s.byteCnt.toNat →
    s.byteCnt.toNat < 5 + s.hdr.size.toNat → 5 + s.hdr.size.toNat ≤ s.cap →
    s.outSize = some s.hdr.size.toNat → s.pk.pixIdx.toNat + needDec s.occ ≤ s.npix →
    ∃ t, step s = .next t ∧
      let b := (pkDecByte s).1
      let d := (pkDecByte s).2
      let m := if s.maskEn = true then b ^^^ (ksNextByte Config.params s.psel d).1 else b
      t.output.read (s.byteCnt.toNat - 5) = m ∧
      (∀ a, a ≠ s.byteCnt.toNat - 5 → t.output.read a = s.output.read a) ∧
      t.pix = s.pix ∧ t.input = s.input ∧ t.byteCnt = s.byteCnt + 1 ∧ t.pk = d.pk ∧
      t.plState = (if s.byteCnt.toNat + 1 = 5 + s.hdr.size.toNat then .done else .decPay) ∧
      t = { s with
        output := t.output, byteCnt := t.byteCnt, pk := t.pk, plState := t.plState,
        code := if s.byteCnt.toNat + 1 = 5 + s.hdr.size.toNat then .ok else s.code,
        ks0 := (if s.maskEn = true then (ksNextByte Config.params s.psel d).2 else d).ks0,
        ks1 := (if s.maskEn = true then (ksNextByte Config.params s.psel d).2 else d).ks1,
        lpos := (if s.maskEn = true then (ksNextByte Config.params s.psel d).2 else d).lpos }

/-! The whole machine -/

/-- PL_STATE moves only along the arrows of R180, each moved by who the table says; a reset leads to IDLE. -/
def Obligations.PlStateMovesOnlyAlongItsArrows : Prop :=
  ∀ s t : State, step s = .next t → t.plState ≠ s.plState → Arrow s.plState s.mover t.plState

/-- The invariants hold right after reset. -/
def Obligations.InvariantHoldsAtReset : Prop := State.reset.Invariant Config.params

/-- Every transition keeps the invariants of R45, of the running operation and of the host's memories. -/
def Obligations.EveryStepKeepsTheInvariant : Prop :=
  ∀ s t : State, s.Invariant Config.params → step s = .next t → t.Invariant Config.params

/-- From a state that meets the invariants no step answers a fault, that is, a pixel, an IN byte, an OUT byte or a header
byte that does not exist is never asked for; and a step of the sequencer leaves every pixel at W*H and above, every OUT
byte at HDR.SIZE and above, and all of IN as they were (R71, R197). That such an access is a fault is the model's choice
(log entry 9), and who moves is read from the model's schedule (log entry 1). -/
def Obligations.NoStepLeavesTheMemories : Prop :=
  (∀ (s : State) (f : Fault), s.Invariant Config.params → step s ≠ .fault f) ∧
  ∀ s t : State, s.Invariant Config.params → s.mover = .sequencer → step s = .next t →
    (∀ p, s.width.toNat * s.height.toNat ≤ p → t.pix.readPixel p = s.pix.readPixel p) ∧
    (∀ i, s.hdr.size.toNat ≤ i → t.output.read i = s.output.read i) ∧
    ∀ i, t.input.read i = s.input.read i

/-- A step is refused exactly when an unfaulted host touches its memories while BUSY (R76, R228, R258; log entry 10):
R76 and R72 do not list reads of IN among what the host must not do, R258 and R228 do, and the model follows R258. While
not BUSY each access has its effect: a write changes the addressed word or byte alone, a read hands it over (R61, R63,
R64, R69). `busData`, which records what was handed over, is the model's own (log entry 11), and so is that the host's
accesses are not bounded by the sizes (log entry 6) and that those to OUT need no granted buffer (log entry 22). -/
def Obligations.OnlyABrokenHostDutyIsRefused : Prop :=
  (∀ (s : State) (r : Refusal), step s = .refused r ↔
    r = .hostDutyBroken ∧ s.faultedBy = none ∧ s.busy = true ∧
      ∃ e rest, s.schedule = e :: rest ∧ e.barredWhileBusy = true) ∧
  (∀ (i : Nat) (b : Byte) (v : Word), (Event.pixWrite i v).barredWhileBusy = true ∧
    (Event.pixRead i).barredWhileBusy = true ∧ (Event.inWrite i b).barredWhileBusy = true ∧
    (Event.inRead i).barredWhileBusy = true ∧ (Event.outWrite i b).barredWhileBusy = true ∧
    (Event.outRead i).barredWhileBusy = true) ∧
  ∀ (s : State) (i : Nat) (b : Byte) (v : Word) (rest : List Event), s.faultedBy = none → s.busy = false →
    (s.schedule = .pixWrite i v :: rest →
      ∃ t, step s = .next t ∧ t = { s with schedule := rest, pix := t.pix } ∧ t.pix.readPixel i = v ∧
        ∀ p, p ≠ i → t.pix.readPixel p = s.pix.readPixel p) ∧
    (s.schedule = .inWrite i b :: rest →
      ∃ t, step s = .next t ∧ t = { s with schedule := rest, input := t.input } ∧ t.input.read i = b ∧
        ∀ a, a ≠ i → t.input.read a = s.input.read a) ∧
    (s.schedule = .outWrite i b :: rest →
      ∃ t, step s = .next t ∧ t = { s with schedule := rest, output := t.output } ∧ t.output.read i = b ∧
        ∀ a, a ≠ i → t.output.read a = s.output.read a) ∧
    (s.schedule = .pixRead i :: rest →
      step s = .next { s with schedule := rest, busData := some (s.pix.readPixel i) }) ∧
    (s.schedule = .inRead i :: rest →
      step s = .next { s with schedule := rest, busData := some ((s.input.read i).setWidth 32) }) ∧
    (s.schedule = .outRead i :: rest →
      step s = .next { s with schedule := rest, busData := some ((s.output.read i).setWidth 32) })

/-- Left alone, an encrypt takes exactly 5 + SIZE + 1 sequencer steps from ENC_HDR to DONE (R201). -/
def Obligations.EncryptTakesExactlyItsSteps : Prop :=
  ∀ s : State, s.Invariant Config.params → s.SequencerNext → s.plState = .encHdr → s.byteCnt = 0 →
    (∃ t, runSteps (5 + s.size.toNat + 1) s = .next t ∧ t.plState = .done ∧ t.code = .ok ∧
      t.byteCnt.toNat = 5 + s.size.toNat) ∧
    ∀ n, n < 5 + s.size.toNat + 1 → ∃ t, runSteps n s = .next t ∧ t.busy = true

/-- Left alone, a decrypt ends within 5 DEC_HDR steps, one DEC_ALLOC step and HDR.SIZE DEC_PAY steps (R201). -/
def Obligations.DecryptEndsWithinItsSteps : Prop :=
  ∀ s : State, s.Invariant Config.params → s.SequencerNext → s.plState = .decHdr → s.byteCnt = 0 →
    ∃ n t, runSteps n s = .next t ∧ n ≤ 5 + 1 + t.hdr.size.toNat ∧ (t.plState = .done ∨ t.plState = .failed)

/-- What an encrypt from IDLE leaves in PIX decrypts to the version, the size and the payload of the encrypt (R198): on
the same block after PL_ACK, and from any state in IDLE with the same pixels below W*H, the same W, H and MASK_EN, and,
when masking, the same staged seeds of the instances that the version uses. The host grants `HostAlloc`, and nothing else
is scheduled (log entries 1 and 3). -/
def Obligations.DecryptOfEncryptRecoversThePayload : Prop :=
  ∀ (v : Byte) (s s1 : State), s.Ready → s.schedule = [] → v.toNat ≤ 1 → 5 + s.size.toNat ≤ s.cap →
    (s.maskEn = true → s.seed0.cnt = 16 ∧ (v = 1 → s.seed1.cnt = 16)) →
    (s.maskEn = true → v = 0 → Config.params.v0Policy = .sameStream) →
    (Config.params.sizeSigned = true → s.size.toNat < 2 ^ 31) →
    exec (.plEncrypt v) s = .next s1 →
    ∃ s2 s3, runSteps (6 + s.size.toNat) s1 = .next s2 ∧ s2.plState = .done ∧ exec .plAck s2 = .next s3 ∧
      (s.allocAnswer = true → s3.Recovers v s.size s.input.read) ∧
      ∀ u : State, u.Ready → u.schedule = [] → u.allocAnswer = true →
        u.width = s.width → u.height = s.height → u.maskEn = s.maskEn →
        (s.maskEn = true → u.seed0 = s.seed0 ∧ (v = 1 → u.seed1 = s.seed1)) →
        (∀ p, p < s.npix → u.pix.readPixel p = s2.pix.readPixel p) →
        u.Recovers v s.size s.input.read

/-! Reset and the host -/

/-- A reset gives every state element its value of R44 and leaves PIX, IN and OUT alone (R44, R250). -/
def Obligations.ResetGivesEveryElementItsValue : Prop :=
  ∀ s : State, ∃ t, perform .reset s = .next t ∧
    t.maskEn = false ∧ t.width = 0 ∧ t.height = 0 ∧ t.size = 0 ∧ t.result = 0 ∧ t.plState = .idle ∧ t.code = .ok ∧
    t.rej = false ∧ t.psel = .ks0 ∧ t.byteCnt = 0 ∧
    t.hdr = { version := 0, size := 0, count := 0, complete := false, unsup := false, hsize := 0 } ∧
    t.pk = { q := [], mode := .unset, pixIdx := 0 } ∧
    (∀ k, (t.seed k).cnt = 0 ∧ (∀ j : Fin 16, (t.seed k).buf[j] = 0) ∧ (t.ks k).valid = false ∧
      ∀ i : Fin 5, (t.ks k).lfsr[i] = 0 ∧ (t.ks k).tap[i] = 0) ∧
    t.lpos = 0 ∧ (∀ j : Fin 16, t.lseed[j] = 0) ∧ t.faultedBy = none ∧
    t.pix = s.pix ∧ t.input = s.input ∧ t.output = s.output

/-- After reset every register of the window reads 0 but ID (R24, R44). -/
def Obligations.RegistersReadZeroAfterReset : Prop :=
  ∀ n : Fin 64, csrValue State.reset (4 * n.val) = if n.val = 0 then 0x44454C46 else 0
end

