-- ==== Sys2Proof/Laws/Memory.lean ====
section
/-! SUPPORT. The laws of the host's memories: read after write, the frame of a write, and the canonical form that every
memory operation keeps. -/

namespace Sys2Proof.Machine

@[simp] theorem read_nil (a : Nat) : Memory.read [] a = Memory.unlisted := rfl

theorem read_cons (c : Host.Cell) (m : Memory) (a : Nat) :
    Memory.read (c :: m) a = if c.1 = a then c.2 else Memory.read m a := rfl

theorem read_erase (m : Memory) (a x : Nat) :
    (m.erase a).read x = if x = a then Memory.unlisted else m.read x := by
  induction m with
  | nil => simp [Memory.erase]
  | cons c rest ih =>
    have ih' : Memory.read (List.filter (fun c => decide (c.1 ≠ a)) rest) x =
        if x = a then Memory.unlisted else Memory.read rest x := ih
    unfold Memory.erase
    by_cases h : c.1 = a
    · simp only [List.filter_cons, h, ne_eq, not_true_eq_false, decide_false, Bool.false_eq_true, if_false, ih', read_cons]
      by_cases hx : x = a
      · simp [hx]
      · simp [hx, Ne.symm hx]
    · simp only [List.filter_cons, h, ne_eq, not_false_eq_true, decide_true, if_true, ih', read_cons]
      by_cases hx : c.1 = x
      · subst hx; simp [h]
      · simp [hx]

theorem read_insert (m : Memory) (a x : Nat) (b : Byte) (h : ∀ c ∈ m, c.1 ≠ a) :
    (m.insert a b).read x = if x = a then b else m.read x := by
  induction m with
  | nil => by_cases hx : x = a <;> simp [Memory.insert, read_cons, hx, Ne.symm]
  | cons c rest ih =>
    have hc : c.1 ≠ a := h c (by simp)
    have ih' := ih fun d hd => h d (by simp [hd])
    unfold Memory.insert
    split
    · by_cases hx : x = a
      · simp [read_cons, hx]
      · simp [read_cons, hx, Ne.symm hx]
    · by_cases hx : c.1 = x
      · subst hx; simp [read_cons, hc]
      · simp [read_cons, hx, ih']

theorem mem_erase_ne (m : Memory) (a : Nat) : ∀ c ∈ m.erase a, c.1 ≠ a := by
  intro c hc
  simpa [Memory.erase] using (List.mem_filter.mp hc).2

/-- What a byte reads as after a write: the written byte at its address, the old byte elsewhere. -/
theorem read_write (m : Memory) (a x : Nat) (b : Byte) :
    (m.write a b).read x = if x = a then b else m.read x := by
  unfold Memory.write
  split
  · rename_i h
    simp [read_erase, h]
  · rw [read_insert _ _ _ _ (mem_erase_ne m a), read_erase]
    by_cases hx : x = a <;> simp [hx]

@[simp] theorem read_write_same (m : Memory) (a : Nat) (b : Byte) : (m.write a b).read a = b := by
  simp [read_write]

theorem read_write_other (m : Memory) (a x : Nat) (b : Byte) (h : x ≠ a) : (m.write a b).read x = m.read x := by
  simp [read_write, h]

/-! The canonical form -/

theorem wf_nil : Memory.wf [] := by simp [Memory.wf]

theorem wf_erase (m : Memory) (a : Nat) (h : m.wf) : (m.erase a).wf :=
  ⟨h.1.filter _, fun c hc => h.2 c (List.mem_filter.mp hc).1⟩

theorem mem_insert (m : Memory) (a : Nat) (b : Byte) (c : Host.Cell) (h : c ∈ m.insert a b) :
    c = (a, b) ∨ c ∈ m := by
  induction m with
  | nil => exact .inl (by simpa [Memory.insert] using h)
  | cons d rest ih =>
    unfold Memory.insert at h
    split at h
    · simpa using h
    · rcases List.mem_cons.mp h with h | h
      · exact .inr (by simp [h])
      · rcases ih h with h | h
        · exact .inl h
        · exact .inr (by simp [h])

theorem wf_insert (m : Memory) (a : Nat) (b : Byte) (h : m.wf) (hb : b ≠ Memory.unlisted)
    (ha : ∀ c ∈ m, c.1 ≠ a) : (m.insert a b).wf := by
  refine ⟨?_, fun c hc => ?_⟩
  · obtain ⟨h, -⟩ := h
    induction m with
    | nil => simp [Memory.insert]
    | cons d rest ih =>
      obtain ⟨hd, hr⟩ := List.pairwise_cons.mp h
      unfold Memory.insert
      split
      · rename_i hlt
        refine List.pairwise_cons.mpr ⟨fun c hc => ?_, h⟩
        rcases List.mem_cons.mp hc with rfl | hc
        · exact hlt
        · exact hlt.trans (hd c hc)
      · rename_i hge
        refine List.pairwise_cons.mpr ⟨fun c hc => ?_, ih (fun c hc => ha c (by simp [hc])) hr⟩
        rcases mem_insert rest a b c hc with rfl | hc
        · exact lt_of_le_of_ne (not_lt.mp hge) (ha d (by simp))
        · exact hd c hc
  · rcases mem_insert m a b c hc with rfl | hc
    · exact hb
    · exact h.2 c hc

/-- Every write keeps the canonical form. -/
theorem wf_write (m : Memory) (a : Nat) (b : Byte) (h : m.wf) : (m.write a b).wf := by
  unfold Memory.write
  split
  · exact wf_erase m a h
  · exact wf_insert _ a b (wf_erase m a h) ‹_› (mem_erase_ne m a)

/-- Every pixel write keeps the canonical form. -/
theorem wf_writePixel (m : Memory) (p : Nat) (v : Word) (h : m.wf) : (m.writePixel p v).wf :=
  wf_write _ _ _ (wf_write _ _ _ (wf_write _ _ _ (wf_write _ _ _ h)))

/-! Pixels -/

/-- A pixel write leaves every byte outside its four as it was. -/
theorem read_writePixel_outside (m : Memory) (p x : Nat) (v : Word) (h : x < 4 * p ∨ 4 * p + 4 ≤ x) :
    (m.writePixel p v).read x = m.read x := by
  unfold Memory.writePixel
  rw [read_write_other _ _ _ _ (by omega), read_write_other _ _ _ _ (by omega), read_write_other _ _ _ _ (by omega),
    read_write_other _ _ _ _ (by omega)]

/-- A pixel reads back as it was written. -/
@[simp] theorem readPixel_writePixel_same (m : Memory) (p : Nat) (v : Word) : (m.writePixel p v).readPixel p = v := by
  have h : ∀ w : Word, w.extractLsb' 24 8 ++ w.extractLsb' 16 8 ++ w.extractLsb' 8 8 ++ w.extractLsb' 0 8 = w := by
    intro w
    apply BitVec.eq_of_getLsbD_eq
    intro i hi
    have : i < 32 := hi
    simp only [BitVec.getLsbD_append, BitVec.getLsbD_extractLsb']
    interval_cases i <;> simp
  simp [Memory.readPixel, Memory.writePixel, read_write, h]

/-- A pixel write leaves every other pixel as it was. -/
theorem readPixel_writePixel_other (m : Memory) (p q : Nat) (v : Word) (h : q ≠ p) :
    (m.writePixel p v).readPixel q = m.readPixel q := by
  unfold Memory.readPixel
  rw [read_writePixel_outside _ _ _ _ (by omega), read_writePixel_outside _ _ _ _ (by omega),
    read_writePixel_outside _ _ _ _ (by omega), read_writePixel_outside _ _ _ _ (by omega)]

end Sys2Proof.Machine
end

