-- ==== Sys2Proof/Laws/State.lean ====
section
/-! SUPPORT. One lemma per field per named update of State, so that no later proof unfolds one. -/

namespace Sys2Proof.Machine

/-! raiseError -/

@[simp] theorem raiseError_maskEn (c : Code) (s : State) :
    (raiseError c s).maskEn = s.maskEn := rfl
@[simp] theorem raiseError_width (c : Code) (s : State) :
    (raiseError c s).width = s.width := rfl
@[simp] theorem raiseError_height (c : Code) (s : State) :
    (raiseError c s).height = s.height := rfl
@[simp] theorem raiseError_size (c : Code) (s : State) :
    (raiseError c s).size = s.size := rfl
@[simp] theorem raiseError_result (c : Code) (s : State) :
    (raiseError c s).result = s.result := rfl
@[simp] theorem raiseError_plState (c : Code) (s : State) :
    (raiseError c s).plState = s.plState := rfl
@[simp] theorem raiseError_code (c : Code) (s : State) :
    (raiseError c s).code = c := rfl
@[simp] theorem raiseError_rej (c : Code) (s : State) :
    (raiseError c s).rej = s.rej := rfl
@[simp] theorem raiseError_psel (c : Code) (s : State) :
    (raiseError c s).psel = s.psel := rfl
@[simp] theorem raiseError_byteCnt (c : Code) (s : State) :
    (raiseError c s).byteCnt = s.byteCnt := rfl
@[simp] theorem raiseError_hdr (c : Code) (s : State) :
    (raiseError c s).hdr = s.hdr := rfl
@[simp] theorem raiseError_pk (c : Code) (s : State) :
    (raiseError c s).pk = s.pk := rfl
@[simp] theorem raiseError_seed0 (c : Code) (s : State) :
    (raiseError c s).seed0 = s.seed0 := rfl
@[simp] theorem raiseError_seed1 (c : Code) (s : State) :
    (raiseError c s).seed1 = s.seed1 := rfl
@[simp] theorem raiseError_ks0 (c : Code) (s : State) :
    (raiseError c s).ks0 = s.ks0 := rfl
@[simp] theorem raiseError_ks1 (c : Code) (s : State) :
    (raiseError c s).ks1 = s.ks1 := rfl
@[simp] theorem raiseError_lpos (c : Code) (s : State) :
    (raiseError c s).lpos = s.lpos := rfl
@[simp] theorem raiseError_lseed (c : Code) (s : State) :
    (raiseError c s).lseed = s.lseed := rfl
@[simp] theorem raiseError_faultedBy (c : Code) (s : State) :
    (raiseError c s).faultedBy = s.faultedBy := rfl
@[simp] theorem raiseError_pix (c : Code) (s : State) :
    (raiseError c s).pix = s.pix := rfl
@[simp] theorem raiseError_input (c : Code) (s : State) :
    (raiseError c s).input = s.input := rfl
@[simp] theorem raiseError_output (c : Code) (s : State) :
    (raiseError c s).output = s.output := rfl
@[simp] theorem raiseError_outSize (c : Code) (s : State) :
    (raiseError c s).outSize = s.outSize := rfl
@[simp] theorem raiseError_allocAnswer (c : Code) (s : State) :
    (raiseError c s).allocAnswer = s.allocAnswer := rfl
@[simp] theorem raiseError_busData (c : Code) (s : State) :
    (raiseError c s).busData = s.busData := rfl
@[simp] theorem raiseError_schedule (c : Code) (s : State) :
    (raiseError c s).schedule = s.schedule := rfl

/-! raiseFail -/

@[simp] theorem raiseFail_maskEn (c : Code) (s : State) :
    (raiseFail c s).maskEn = s.maskEn := rfl
@[simp] theorem raiseFail_width (c : Code) (s : State) :
    (raiseFail c s).width = s.width := rfl
@[simp] theorem raiseFail_height (c : Code) (s : State) :
    (raiseFail c s).height = s.height := rfl
@[simp] theorem raiseFail_size (c : Code) (s : State) :
    (raiseFail c s).size = s.size := rfl
@[simp] theorem raiseFail_result (c : Code) (s : State) :
    (raiseFail c s).result = s.result := rfl
@[simp] theorem raiseFail_plState (c : Code) (s : State) :
    (raiseFail c s).plState = .failed := rfl
@[simp] theorem raiseFail_code (c : Code) (s : State) :
    (raiseFail c s).code = c := rfl
@[simp] theorem raiseFail_rej (c : Code) (s : State) :
    (raiseFail c s).rej = s.rej := rfl
@[simp] theorem raiseFail_psel (c : Code) (s : State) :
    (raiseFail c s).psel = s.psel := rfl
@[simp] theorem raiseFail_byteCnt (c : Code) (s : State) :
    (raiseFail c s).byteCnt = s.byteCnt := rfl
@[simp] theorem raiseFail_hdr (c : Code) (s : State) :
    (raiseFail c s).hdr = s.hdr := rfl
@[simp] theorem raiseFail_pk (c : Code) (s : State) :
    (raiseFail c s).pk = s.pk := rfl
@[simp] theorem raiseFail_seed0 (c : Code) (s : State) :
    (raiseFail c s).seed0 = s.seed0 := rfl
@[simp] theorem raiseFail_seed1 (c : Code) (s : State) :
    (raiseFail c s).seed1 = s.seed1 := rfl
@[simp] theorem raiseFail_ks0 (c : Code) (s : State) :
    (raiseFail c s).ks0 = s.ks0 := rfl
@[simp] theorem raiseFail_ks1 (c : Code) (s : State) :
    (raiseFail c s).ks1 = s.ks1 := rfl
@[simp] theorem raiseFail_lpos (c : Code) (s : State) :
    (raiseFail c s).lpos = s.lpos := rfl
@[simp] theorem raiseFail_lseed (c : Code) (s : State) :
    (raiseFail c s).lseed = s.lseed := rfl
@[simp] theorem raiseFail_faultedBy (c : Code) (s : State) :
    (raiseFail c s).faultedBy = s.faultedBy := rfl
@[simp] theorem raiseFail_pix (c : Code) (s : State) :
    (raiseFail c s).pix = s.pix := rfl
@[simp] theorem raiseFail_input (c : Code) (s : State) :
    (raiseFail c s).input = s.input := rfl
@[simp] theorem raiseFail_output (c : Code) (s : State) :
    (raiseFail c s).output = s.output := rfl
@[simp] theorem raiseFail_outSize (c : Code) (s : State) :
    (raiseFail c s).outSize = s.outSize := rfl
@[simp] theorem raiseFail_allocAnswer (c : Code) (s : State) :
    (raiseFail c s).allocAnswer = s.allocAnswer := rfl
@[simp] theorem raiseFail_busData (c : Code) (s : State) :
    (raiseFail c s).busData = s.busData := rfl
@[simp] theorem raiseFail_schedule (c : Code) (s : State) :
    (raiseFail c s).schedule = s.schedule := rfl

/-! reject -/

@[simp] theorem reject_maskEn (s : State) :
    (reject s).maskEn = s.maskEn := rfl
@[simp] theorem reject_width (s : State) :
    (reject s).width = s.width := rfl
@[simp] theorem reject_height (s : State) :
    (reject s).height = s.height := rfl
@[simp] theorem reject_size (s : State) :
    (reject s).size = s.size := rfl
@[simp] theorem reject_result (s : State) :
    (reject s).result = s.result := rfl
@[simp] theorem reject_plState (s : State) :
    (reject s).plState = s.plState := rfl
@[simp] theorem reject_code (s : State) :
    (reject s).code = s.code := rfl
@[simp] theorem reject_rej (s : State) :
    (reject s).rej = true := rfl
@[simp] theorem reject_psel (s : State) :
    (reject s).psel = s.psel := rfl
@[simp] theorem reject_byteCnt (s : State) :
    (reject s).byteCnt = s.byteCnt := rfl
@[simp] theorem reject_hdr (s : State) :
    (reject s).hdr = s.hdr := rfl
@[simp] theorem reject_pk (s : State) :
    (reject s).pk = s.pk := rfl
@[simp] theorem reject_seed0 (s : State) :
    (reject s).seed0 = s.seed0 := rfl
@[simp] theorem reject_seed1 (s : State) :
    (reject s).seed1 = s.seed1 := rfl
@[simp] theorem reject_ks0 (s : State) :
    (reject s).ks0 = s.ks0 := rfl
@[simp] theorem reject_ks1 (s : State) :
    (reject s).ks1 = s.ks1 := rfl
@[simp] theorem reject_lpos (s : State) :
    (reject s).lpos = s.lpos := rfl
@[simp] theorem reject_lseed (s : State) :
    (reject s).lseed = s.lseed := rfl
@[simp] theorem reject_faultedBy (s : State) :
    (reject s).faultedBy = s.faultedBy := rfl
@[simp] theorem reject_pix (s : State) :
    (reject s).pix = s.pix := rfl
@[simp] theorem reject_input (s : State) :
    (reject s).input = s.input := rfl
@[simp] theorem reject_output (s : State) :
    (reject s).output = s.output := rfl
@[simp] theorem reject_outSize (s : State) :
    (reject s).outSize = s.outSize := rfl
@[simp] theorem reject_allocAnswer (s : State) :
    (reject s).allocAnswer = s.allocAnswer := rfl
@[simp] theorem reject_busData (s : State) :
    (reject s).busData = s.busData := rfl
@[simp] theorem reject_schedule (s : State) :
    (reject s).schedule = s.schedule := rfl

/-! succeed -/

@[simp] theorem succeed_maskEn (s : State) :
    (succeed s).maskEn = s.maskEn := rfl
@[simp] theorem succeed_width (s : State) :
    (succeed s).width = s.width := rfl
@[simp] theorem succeed_height (s : State) :
    (succeed s).height = s.height := rfl
@[simp] theorem succeed_size (s : State) :
    (succeed s).size = s.size := rfl
@[simp] theorem succeed_result (s : State) :
    (succeed s).result = s.result := rfl
@[simp] theorem succeed_plState (s : State) :
    (succeed s).plState = s.plState := rfl
@[simp] theorem succeed_code (s : State) :
    (succeed s).code = .ok := rfl
@[simp] theorem succeed_rej (s : State) :
    (succeed s).rej = s.rej := rfl
@[simp] theorem succeed_psel (s : State) :
    (succeed s).psel = s.psel := rfl
@[simp] theorem succeed_byteCnt (s : State) :
    (succeed s).byteCnt = s.byteCnt := rfl
@[simp] theorem succeed_hdr (s : State) :
    (succeed s).hdr = s.hdr := rfl
@[simp] theorem succeed_pk (s : State) :
    (succeed s).pk = s.pk := rfl
@[simp] theorem succeed_seed0 (s : State) :
    (succeed s).seed0 = s.seed0 := rfl
@[simp] theorem succeed_seed1 (s : State) :
    (succeed s).seed1 = s.seed1 := rfl
@[simp] theorem succeed_ks0 (s : State) :
    (succeed s).ks0 = s.ks0 := rfl
@[simp] theorem succeed_ks1 (s : State) :
    (succeed s).ks1 = s.ks1 := rfl
@[simp] theorem succeed_lpos (s : State) :
    (succeed s).lpos = s.lpos := rfl
@[simp] theorem succeed_lseed (s : State) :
    (succeed s).lseed = s.lseed := rfl
@[simp] theorem succeed_faultedBy (s : State) :
    (succeed s).faultedBy = s.faultedBy := rfl
@[simp] theorem succeed_pix (s : State) :
    (succeed s).pix = s.pix := rfl
@[simp] theorem succeed_input (s : State) :
    (succeed s).input = s.input := rfl
@[simp] theorem succeed_output (s : State) :
    (succeed s).output = s.output := rfl
@[simp] theorem succeed_outSize (s : State) :
    (succeed s).outSize = s.outSize := rfl
@[simp] theorem succeed_allocAnswer (s : State) :
    (succeed s).allocAnswer = s.allocAnswer := rfl
@[simp] theorem succeed_busData (s : State) :
    (succeed s).busData = s.busData := rfl
@[simp] theorem succeed_schedule (s : State) :
    (succeed s).schedule = s.schedule := rfl

/-! acknowledge -/

@[simp] theorem acknowledge_maskEn (s : State) :
    (acknowledge s).maskEn = s.maskEn := rfl
@[simp] theorem acknowledge_width (s : State) :
    (acknowledge s).width = s.width := rfl
@[simp] theorem acknowledge_height (s : State) :
    (acknowledge s).height = s.height := rfl
@[simp] theorem acknowledge_size (s : State) :
    (acknowledge s).size = s.size := rfl
@[simp] theorem acknowledge_result (s : State) :
    (acknowledge s).result = s.result := rfl
@[simp] theorem acknowledge_plState (s : State) :
    (acknowledge s).plState = .idle := rfl
@[simp] theorem acknowledge_code (s : State) :
    (acknowledge s).code = .ok := rfl
@[simp] theorem acknowledge_rej (s : State) :
    (acknowledge s).rej = false := rfl
@[simp] theorem acknowledge_psel (s : State) :
    (acknowledge s).psel = s.psel := rfl
@[simp] theorem acknowledge_byteCnt (s : State) :
    (acknowledge s).byteCnt = s.byteCnt := rfl
@[simp] theorem acknowledge_hdr (s : State) :
    (acknowledge s).hdr = s.hdr := rfl
@[simp] theorem acknowledge_pk (s : State) :
    (acknowledge s).pk = s.pk := rfl
@[simp] theorem acknowledge_seed0 (s : State) :
    (acknowledge s).seed0 = s.seed0 := rfl
@[simp] theorem acknowledge_seed1 (s : State) :
    (acknowledge s).seed1 = s.seed1 := rfl
@[simp] theorem acknowledge_ks0 (s : State) :
    (acknowledge s).ks0 = s.ks0 := rfl
@[simp] theorem acknowledge_ks1 (s : State) :
    (acknowledge s).ks1 = s.ks1 := rfl
@[simp] theorem acknowledge_lpos (s : State) :
    (acknowledge s).lpos = s.lpos := rfl
@[simp] theorem acknowledge_lseed (s : State) :
    (acknowledge s).lseed = s.lseed := rfl
@[simp] theorem acknowledge_faultedBy (s : State) :
    (acknowledge s).faultedBy = s.faultedBy := rfl
@[simp] theorem acknowledge_pix (s : State) :
    (acknowledge s).pix = s.pix := rfl
@[simp] theorem acknowledge_input (s : State) :
    (acknowledge s).input = s.input := rfl
@[simp] theorem acknowledge_output (s : State) :
    (acknowledge s).output = s.output := rfl
@[simp] theorem acknowledge_outSize (s : State) :
    (acknowledge s).outSize = s.outSize := rfl
@[simp] theorem acknowledge_allocAnswer (s : State) :
    (acknowledge s).allocAnswer = s.allocAnswer := rfl
@[simp] theorem acknowledge_busData (s : State) :
    (acknowledge s).busData = s.busData := rfl
@[simp] theorem acknowledge_schedule (s : State) :
    (acknowledge s).schedule = s.schedule := rfl

/-! withFlow -/

@[simp] theorem withFlow_maskEn (s : State) (f : Flow) :
    (s.withFlow f).maskEn = s.maskEn := rfl
@[simp] theorem withFlow_width (s : State) (f : Flow) :
    (s.withFlow f).width = s.width := rfl
@[simp] theorem withFlow_height (s : State) (f : Flow) :
    (s.withFlow f).height = s.height := rfl
@[simp] theorem withFlow_size (s : State) (f : Flow) :
    (s.withFlow f).size = s.size := rfl
@[simp] theorem withFlow_result (s : State) (f : Flow) :
    (s.withFlow f).result = s.result := rfl
@[simp] theorem withFlow_plState (s : State) (f : Flow) :
    (s.withFlow f).plState = s.plState := rfl
@[simp] theorem withFlow_code (s : State) (f : Flow) :
    (s.withFlow f).code = s.code := rfl
@[simp] theorem withFlow_rej (s : State) (f : Flow) :
    (s.withFlow f).rej = s.rej := rfl
@[simp] theorem withFlow_psel (s : State) (f : Flow) :
    (s.withFlow f).psel = s.psel := rfl
@[simp] theorem withFlow_byteCnt (s : State) (f : Flow) :
    (s.withFlow f).byteCnt = s.byteCnt := rfl
@[simp] theorem withFlow_hdr (s : State) (f : Flow) :
    (s.withFlow f).hdr = s.hdr := rfl
@[simp] theorem withFlow_pk (s : State) (f : Flow) :
    (s.withFlow f).pk = { s.pk with q := f.q, pixIdx := f.idx } := rfl
@[simp] theorem withFlow_seed0 (s : State) (f : Flow) :
    (s.withFlow f).seed0 = s.seed0 := rfl
@[simp] theorem withFlow_seed1 (s : State) (f : Flow) :
    (s.withFlow f).seed1 = s.seed1 := rfl
@[simp] theorem withFlow_ks0 (s : State) (f : Flow) :
    (s.withFlow f).ks0 = s.ks0 := rfl
@[simp] theorem withFlow_ks1 (s : State) (f : Flow) :
    (s.withFlow f).ks1 = s.ks1 := rfl
@[simp] theorem withFlow_lpos (s : State) (f : Flow) :
    (s.withFlow f).lpos = s.lpos := rfl
@[simp] theorem withFlow_lseed (s : State) (f : Flow) :
    (s.withFlow f).lseed = s.lseed := rfl
@[simp] theorem withFlow_faultedBy (s : State) (f : Flow) :
    (s.withFlow f).faultedBy = s.faultedBy := rfl
@[simp] theorem withFlow_pix (s : State) (f : Flow) :
    (s.withFlow f).pix = f.mem := rfl
@[simp] theorem withFlow_input (s : State) (f : Flow) :
    (s.withFlow f).input = s.input := rfl
@[simp] theorem withFlow_output (s : State) (f : Flow) :
    (s.withFlow f).output = s.output := rfl
@[simp] theorem withFlow_outSize (s : State) (f : Flow) :
    (s.withFlow f).outSize = s.outSize := rfl
@[simp] theorem withFlow_allocAnswer (s : State) (f : Flow) :
    (s.withFlow f).allocAnswer = s.allocAnswer := rfl
@[simp] theorem withFlow_busData (s : State) (f : Flow) :
    (s.withFlow f).busData = s.busData := rfl
@[simp] theorem withFlow_schedule (s : State) (f : Flow) :
    (s.withFlow f).schedule = s.schedule := rfl

/-! setKs -/

@[simp] theorem setKs_maskEn (s : State) (k : KsId) (x : Keystream) :
    (s.setKs k x).maskEn = s.maskEn := by cases k <;> rfl
@[simp] theorem setKs_width (s : State) (k : KsId) (x : Keystream) :
    (s.setKs k x).width = s.width := by cases k <;> rfl
@[simp] theorem setKs_height (s : State) (k : KsId) (x : Keystream) :
    (s.setKs k x).height = s.height := by cases k <;> rfl
@[simp] theorem setKs_size (s : State) (k : KsId) (x : Keystream) :
    (s.setKs k x).size = s.size := by cases k <;> rfl
@[simp] theorem setKs_result (s : State) (k : KsId) (x : Keystream) :
    (s.setKs k x).result = s.result := by cases k <;> rfl
@[simp] theorem setKs_plState (s : State) (k : KsId) (x : Keystream) :
    (s.setKs k x).plState = s.plState := by cases k <;> rfl
@[simp] theorem setKs_code (s : State) (k : KsId) (x : Keystream) :
    (s.setKs k x).code = s.code := by cases k <;> rfl
@[simp] theorem setKs_rej (s : State) (k : KsId) (x : Keystream) :
    (s.setKs k x).rej = s.rej := by cases k <;> rfl
@[simp] theorem setKs_psel (s : State) (k : KsId) (x : Keystream) :
    (s.setKs k x).psel = s.psel := by cases k <;> rfl
@[simp] theorem setKs_byteCnt (s : State) (k : KsId) (x : Keystream) :
    (s.setKs k x).byteCnt = s.byteCnt := by cases k <;> rfl
@[simp] theorem setKs_hdr (s : State) (k : KsId) (x : Keystream) :
    (s.setKs k x).hdr = s.hdr := by cases k <;> rfl
@[simp] theorem setKs_pk (s : State) (k : KsId) (x : Keystream) :
    (s.setKs k x).pk = s.pk := by cases k <;> rfl
@[simp] theorem setKs_seed0 (s : State) (k : KsId) (x : Keystream) :
    (s.setKs k x).seed0 = s.seed0 := by cases k <;> rfl
@[simp] theorem setKs_seed1 (s : State) (k : KsId) (x : Keystream) :
    (s.setKs k x).seed1 = s.seed1 := by cases k <;> rfl
@[simp] theorem setKs_lpos (s : State) (k : KsId) (x : Keystream) :
    (s.setKs k x).lpos = s.lpos := by cases k <;> rfl
@[simp] theorem setKs_lseed (s : State) (k : KsId) (x : Keystream) :
    (s.setKs k x).lseed = s.lseed := by cases k <;> rfl
@[simp] theorem setKs_faultedBy (s : State) (k : KsId) (x : Keystream) :
    (s.setKs k x).faultedBy = s.faultedBy := by cases k <;> rfl
@[simp] theorem setKs_pix (s : State) (k : KsId) (x : Keystream) :
    (s.setKs k x).pix = s.pix := by cases k <;> rfl
@[simp] theorem setKs_input (s : State) (k : KsId) (x : Keystream) :
    (s.setKs k x).input = s.input := by cases k <;> rfl
@[simp] theorem setKs_output (s : State) (k : KsId) (x : Keystream) :
    (s.setKs k x).output = s.output := by cases k <;> rfl
@[simp] theorem setKs_outSize (s : State) (k : KsId) (x : Keystream) :
    (s.setKs k x).outSize = s.outSize := by cases k <;> rfl
@[simp] theorem setKs_allocAnswer (s : State) (k : KsId) (x : Keystream) :
    (s.setKs k x).allocAnswer = s.allocAnswer := by cases k <;> rfl
@[simp] theorem setKs_busData (s : State) (k : KsId) (x : Keystream) :
    (s.setKs k x).busData = s.busData := by cases k <;> rfl
@[simp] theorem setKs_schedule (s : State) (k : KsId) (x : Keystream) :
    (s.setKs k x).schedule = s.schedule := by cases k <;> rfl

@[simp] theorem setKs_ks (s : State) (k : KsId) (x : Keystream) : (s.setKs k x).ks k = x := by cases k <;> rfl

theorem setKs_ks_other (s : State) (k j : KsId) (x : Keystream) (h : j ≠ k) : (s.setKs k x).ks j = s.ks j := by
  cases k <;> cases j <;> first | rfl | exact absurd rfl h

@[simp] theorem setKs_seed (s : State) (k j : KsId) (x : Keystream) : (s.setKs k x).seed j = s.seed j := by
  cases k <;> cases j <;> rfl

/-! setSeed -/

@[simp] theorem setSeed_maskEn (s : State) (k : KsId) (x : SeedStage) :
    (s.setSeed k x).maskEn = s.maskEn := by cases k <;> rfl
@[simp] theorem setSeed_width (s : State) (k : KsId) (x : SeedStage) :
    (s.setSeed k x).width = s.width := by cases k <;> rfl
@[simp] theorem setSeed_height (s : State) (k : KsId) (x : SeedStage) :
    (s.setSeed k x).height = s.height := by cases k <;> rfl
@[simp] theorem setSeed_size (s : State) (k : KsId) (x : SeedStage) :
    (s.setSeed k x).size = s.size := by cases k <;> rfl
@[simp] theorem setSeed_result (s : State) (k : KsId) (x : SeedStage) :
    (s.setSeed k x).result = s.result := by cases k <;> rfl
@[simp] theorem setSeed_plState (s : State) (k : KsId) (x : SeedStage) :
    (s.setSeed k x).plState = s.plState := by cases k <;> rfl
@[simp] theorem setSeed_code (s : State) (k : KsId) (x : SeedStage) :
    (s.setSeed k x).code = s.code := by cases k <;> rfl
@[simp] theorem setSeed_rej (s : State) (k : KsId) (x : SeedStage) :
    (s.setSeed k x).rej = s.rej := by cases k <;> rfl
@[simp] theorem setSeed_psel (s : State) (k : KsId) (x : SeedStage) :
    (s.setSeed k x).psel = s.psel := by cases k <;> rfl
@[simp] theorem setSeed_byteCnt (s : State) (k : KsId) (x : SeedStage) :
    (s.setSeed k x).byteCnt = s.byteCnt := by cases k <;> rfl
@[simp] theorem setSeed_hdr (s : State) (k : KsId) (x : SeedStage) :
    (s.setSeed k x).hdr = s.hdr := by cases k <;> rfl
@[simp] theorem setSeed_pk (s : State) (k : KsId) (x : SeedStage) :
    (s.setSeed k x).pk = s.pk := by cases k <;> rfl
@[simp] theorem setSeed_ks0 (s : State) (k : KsId) (x : SeedStage) :
    (s.setSeed k x).ks0 = s.ks0 := by cases k <;> rfl
@[simp] theorem setSeed_ks1 (s : State) (k : KsId) (x : SeedStage) :
    (s.setSeed k x).ks1 = s.ks1 := by cases k <;> rfl
@[simp] theorem setSeed_lpos (s : State) (k : KsId) (x : SeedStage) :
    (s.setSeed k x).lpos = s.lpos := by cases k <;> rfl
@[simp] theorem setSeed_lseed (s : State) (k : KsId) (x : SeedStage) :
    (s.setSeed k x).lseed = s.lseed := by cases k <;> rfl
@[simp] theorem setSeed_faultedBy (s : State) (k : KsId) (x : SeedStage) :
    (s.setSeed k x).faultedBy = s.faultedBy := by cases k <;> rfl
@[simp] theorem setSeed_pix (s : State) (k : KsId) (x : SeedStage) :
    (s.setSeed k x).pix = s.pix := by cases k <;> rfl
@[simp] theorem setSeed_input (s : State) (k : KsId) (x : SeedStage) :
    (s.setSeed k x).input = s.input := by cases k <;> rfl
@[simp] theorem setSeed_output (s : State) (k : KsId) (x : SeedStage) :
    (s.setSeed k x).output = s.output := by cases k <;> rfl
@[simp] theorem setSeed_outSize (s : State) (k : KsId) (x : SeedStage) :
    (s.setSeed k x).outSize = s.outSize := by cases k <;> rfl
@[simp] theorem setSeed_allocAnswer (s : State) (k : KsId) (x : SeedStage) :
    (s.setSeed k x).allocAnswer = s.allocAnswer := by cases k <;> rfl
@[simp] theorem setSeed_busData (s : State) (k : KsId) (x : SeedStage) :
    (s.setSeed k x).busData = s.busData := by cases k <;> rfl
@[simp] theorem setSeed_schedule (s : State) (k : KsId) (x : SeedStage) :
    (s.setSeed k x).schedule = s.schedule := by cases k <;> rfl

@[simp] theorem setSeed_seed (s : State) (k : KsId) (x : SeedStage) : (s.setSeed k x).seed k = x := by
  cases k <;> rfl

theorem setSeed_seed_other (s : State) (k j : KsId) (x : SeedStage) (h : j ≠ k) :
    (s.setSeed k x).seed j = s.seed j := by
  cases k <;> cases j <;> first | rfl | exact absurd rfl h

@[simp] theorem setSeed_ks (s : State) (k j : KsId) (x : SeedStage) : (s.setSeed k x).ks j = s.ks j := by
  cases k <;> cases j <;> rfl

/-! raiseFault -/

@[simp] theorem raiseFault_maskEn (r : CsrFault) (s : State) :
    (raiseFault r s).maskEn = s.maskEn := by unfold raiseFault; split <;> rfl
@[simp] theorem raiseFault_width (r : CsrFault) (s : State) :
    (raiseFault r s).width = s.width := by unfold raiseFault; split <;> rfl
@[simp] theorem raiseFault_height (r : CsrFault) (s : State) :
    (raiseFault r s).height = s.height := by unfold raiseFault; split <;> rfl
@[simp] theorem raiseFault_size (r : CsrFault) (s : State) :
    (raiseFault r s).size = s.size := by unfold raiseFault; split <;> rfl
@[simp] theorem raiseFault_result (r : CsrFault) (s : State) :
    (raiseFault r s).result = s.result := by unfold raiseFault; split <;> rfl
@[simp] theorem raiseFault_plState (r : CsrFault) (s : State) :
    (raiseFault r s).plState = s.plState := by unfold raiseFault; split <;> rfl
@[simp] theorem raiseFault_code (r : CsrFault) (s : State) :
    (raiseFault r s).code = s.code := by unfold raiseFault; split <;> rfl
@[simp] theorem raiseFault_rej (r : CsrFault) (s : State) :
    (raiseFault r s).rej = s.rej := by unfold raiseFault; split <;> rfl
@[simp] theorem raiseFault_psel (r : CsrFault) (s : State) :
    (raiseFault r s).psel = s.psel := by unfold raiseFault; split <;> rfl
@[simp] theorem raiseFault_byteCnt (r : CsrFault) (s : State) :
    (raiseFault r s).byteCnt = s.byteCnt := by unfold raiseFault; split <;> rfl
@[simp] theorem raiseFault_hdr (r : CsrFault) (s : State) :
    (raiseFault r s).hdr = s.hdr := by unfold raiseFault; split <;> rfl
@[simp] theorem raiseFault_pk (r : CsrFault) (s : State) :
    (raiseFault r s).pk = s.pk := by unfold raiseFault; split <;> rfl
@[simp] theorem raiseFault_seed0 (r : CsrFault) (s : State) :
    (raiseFault r s).seed0 = s.seed0 := by unfold raiseFault; split <;> rfl
@[simp] theorem raiseFault_seed1 (r : CsrFault) (s : State) :
    (raiseFault r s).seed1 = s.seed1 := by unfold raiseFault; split <;> rfl
@[simp] theorem raiseFault_ks0 (r : CsrFault) (s : State) :
    (raiseFault r s).ks0 = s.ks0 := by unfold raiseFault; split <;> rfl
@[simp] theorem raiseFault_ks1 (r : CsrFault) (s : State) :
    (raiseFault r s).ks1 = s.ks1 := by unfold raiseFault; split <;> rfl
@[simp] theorem raiseFault_lpos (r : CsrFault) (s : State) :
    (raiseFault r s).lpos = s.lpos := by unfold raiseFault; split <;> rfl
@[simp] theorem raiseFault_lseed (r : CsrFault) (s : State) :
    (raiseFault r s).lseed = s.lseed := by unfold raiseFault; split <;> rfl
@[simp] theorem raiseFault_pix (r : CsrFault) (s : State) :
    (raiseFault r s).pix = s.pix := by unfold raiseFault; split <;> rfl
@[simp] theorem raiseFault_input (r : CsrFault) (s : State) :
    (raiseFault r s).input = s.input := by unfold raiseFault; split <;> rfl
@[simp] theorem raiseFault_output (r : CsrFault) (s : State) :
    (raiseFault r s).output = s.output := by unfold raiseFault; split <;> rfl
@[simp] theorem raiseFault_outSize (r : CsrFault) (s : State) :
    (raiseFault r s).outSize = s.outSize := by unfold raiseFault; split <;> rfl
@[simp] theorem raiseFault_allocAnswer (r : CsrFault) (s : State) :
    (raiseFault r s).allocAnswer = s.allocAnswer := by unfold raiseFault; split <;> rfl
@[simp] theorem raiseFault_busData (r : CsrFault) (s : State) :
    (raiseFault r s).busData = s.busData := by unfold raiseFault; split <;> rfl
@[simp] theorem raiseFault_schedule (r : CsrFault) (s : State) :
    (raiseFault r s).schedule = s.schedule := by unfold raiseFault; split <;> rfl

/-- A fault raised on a state that holds none sets the mark; on a faulted state it changes nothing. -/
theorem raiseFault_cases (r : CsrFault) (s : State) :
    (s.faultedBy = none ∧ raiseFault r s = { s with faultedBy := some r }) ∨
      (s.faultedBy ≠ none ∧ raiseFault r s = s) := by
  unfold raiseFault
  split
  · exact .inl ⟨‹_›, rfl⟩
  · exact .inr ⟨by simp_all, rfl⟩

end Sys2Proof.Machine
end

