-- ==== Sys2Proof/Laws/Ops.lean ====
section
/-! SUPPORT. For each shared operation, what it can do, said once: the gate, the keystream draw, construction, masking,
the packer, and a transition. -/

namespace Sys2Proof.Machine

/-! Flags -/

theorem faulted_eq_false (s : State) : s.faulted = false ↔ s.faultedBy = none := by
  unfold State.faulted; cases s.faultedBy <;> simp

theorem faulted_eq_true (s : State) : s.faulted = true ↔ s.faultedBy ≠ none := by
  unfold State.faulted; cases s.faultedBy <;> simp

/-- The gating table of R101. -/
theorem permitted_idle (i : Instr) : permitted i .idle = true := rfl

/-! The gate -/

/-- What the gate can do: nothing, the command's effect, or a rejection. -/
theorem submit_cases (i : Instr) (s : State) (f : State → State) :
    (s.faultedBy ≠ none ∧ submit i s f = s) ∨
      (s.faultedBy = none ∧ permitted i s.plState = true ∧ submit i s f = f s) ∨
      (s.faultedBy = none ∧ permitted i s.plState = false ∧ submit i s f = reject s) := by
  unfold submit
  cases hf : s.faulted
  · have := (faulted_eq_false s).mp hf
    cases hp : permitted i s.plState <;> simp [this]
  · simp [(faulted_eq_true s).mp hf]

/-- In IDLE the gate lets every command run. -/
theorem submit_ready (i : Instr) (s : State) (f : State → State) (h : s.Ready) : submit i s f = f s := by
  simp [submit, (faulted_eq_false s).mpr h.1, h.2, permitted_idle]

/-- What an illegal word can do. -/
theorem submitIllegal_cases (s : State) :
    (s.faultedBy ≠ none ∧ submitIllegal s = s) ∨
      (s.faultedBy = none ∧ s.plState = .idle ∧ submitIllegal s = raiseError .illegalCommand s) ∨
      (s.faultedBy = none ∧ s.plState ≠ .idle ∧ submitIllegal s = reject s) := by
  unfold submitIllegal
  cases hf : s.faulted
  · have := (faulted_eq_false s).mp hf
    by_cases hp : s.plState = .idle <;> simp [this, hp]
  · simp [(faulted_eq_true s).mp hf]

/-! Keystream -/

@[simp] theorem tick_tap (x : Keystream) : x.tick.tap = x.tap := rfl

@[simp] theorem tick_valid (x : Keystream) : x.tick.valid = x.valid := rfl

theorem tick_lfsr (x : Keystream) (i : Fin 5) : x.tick.lfsr[i] = tickRegister x.lfsr[i] x.tap[i] := by
  simp [Keystream.tick]

theorem shiftIn_snd (n : Nat) (b : Byte) (x : Keystream) : (Keystream.shiftIn n b x).2 = Keystream.tick^[n] x := by
  induction n generalizing b x with
  | zero => rfl
  | succ n ih => simp [Keystream.shiftIn, ih, Function.iterate_succ]

@[simp] theorem iterate_tick_tap (n : Nat) (x : Keystream) : (Keystream.tick^[n] x).tap = x.tap := by
  induction n generalizing x with
  | zero => rfl
  | succ n ih => simp [Function.iterate_succ, ih]

@[simp] theorem iterate_tick_valid (n : Nat) (x : Keystream) : (Keystream.tick^[n] x).valid = x.valid := by
  induction n generalizing x with
  | zero => rfl
  | succ n ih => simp [Function.iterate_succ, ih]

theorem nextByte_snd (x : Keystream) : x.nextByte.2 = Keystream.tick^[8] x := shiftIn_snd 8 0 x

@[simp] theorem nextByte_tap (x : Keystream) : x.nextByte.2.tap = x.tap := by rw [nextByte_snd]; simp

@[simp] theorem nextByte_valid (x : Keystream) : x.nextByte.2.valid = x.valid := by rw [nextByte_snd]; simp

/-- A draw changes the instances and LPOS alone. -/
theorem ksNextByte_frame (P : Config.Params) (k : KsId) (s : State) :
    (ksNextByte P k s).2 = { s with
      ks0 := (ksNextByte P k s).2.ks0, ks1 := (ksNextByte P k s).2.ks1, lpos := (ksNextByte P k s).2.lpos } := by
  unfold ksNextByte
  split
  · rfl
  · cases k <;> rfl

/-- A draw leaves each instance as it was or eight ticks on. -/
theorem ksNextByte_ks (P : Config.Params) (k j : KsId) (s : State) :
    (ksNextByte P k s).2.ks j = s.ks j ∨ (ksNextByte P k s).2.ks j = (s.ks j).nextByte.2 := by
  unfold ksNextByte
  split
  · exact .inl rfl
  · cases k <;> cases j <;> first | exact .inl rfl | exact .inr rfl

/-- A draw's byte and instance depend on the instance, LSEED and LPOS alone. -/
theorem ksNextByte_congr (P : Config.Params) (k : KsId) (s u : State) (h : u.ks k = s.ks k)
    (hs : u.lseed = s.lseed) (hp : u.lpos = s.lpos) :
    (ksNextByte P k u).1 = (ksNextByte P k s).1 ∧ (ksNextByte P k u).2.ks k = (ksNextByte P k s).2.ks k ∧
      (ksNextByte P k u).2.lpos = (ksNextByte P k s).2.lpos := by
  unfold ksNextByte
  split
  · exact ⟨by simp [hs, hp], by cases k <;> simpa [State.ks] using h, by simp [hp]⟩
  · simp [h, hp]

/-- Construction changes the instance it names, and LSEED and LPOS, alone. -/
theorem construct_frame (P : Config.Params) (k : KsId) (s : State) :
    construct P k s = { s with
      ks0 := (construct P k s).ks0, ks1 := (construct P k s).ks1
      lseed := (construct P k s).lseed, lpos := (construct P k s).lpos } := by
  unfold construct latchLegacy
  cases k <;> split <;> rfl

/-- The instance a construction leaves under each name. -/
theorem construct_ks (P : Config.Params) (k j : KsId) (s : State) :
    (construct P k s).ks j = if j = k then constructed P (P.seedSlice (s.seed k).buf) else s.ks j := by
  unfold construct latchLegacy
  cases k <;> cases j <;> split <;> rfl

/-- Masking is a draw and an XOR when MASK_EN is 1, and nothing otherwise (R182). -/
theorem maskByte_eq (P : Config.Params) (k : KsId) (b : Byte) (s : State) :
    maskByte P k b s = (if s.maskEn = true then b ^^^ (ksNextByte P k s).1 else b,
      if s.maskEn = true then (ksNextByte P k s).2 else s) := by
  unfold maskByte
  split <;> simp_all

/-- Masking changes the instances and LPOS alone. -/
theorem maskByte_frame (P : Config.Params) (k : KsId) (b : Byte) (s : State) :
    (maskByte P k b s).2 = { s with
      ks0 := (maskByte P k b s).2.ks0, ks1 := (maskByte P k b s).2.ks1, lpos := (maskByte P k b s).2.lpos } := by
  unfold maskByte
  split
  · exact ksNextByte_frame P k s
  · rfl

/-! Packer -/

/-- Draining keeps the pairs: three go into each pixel, fewer than three are left. -/
theorem drainPairs_counts (q : List Pair) (idx : Word) (m : Memory) :
    (drainPairs q idx m).q = q.drop (3 * (q.length / 3)) ∧
      (drainPairs q idx m).idx = idx + BitVec.ofNat 32 (q.length / 3) := by
  induction q, idx, m using drainPairs.induct with
  | case1 idx m p0 p1 p2 rest ih =>
    obtain ⟨h1, h2⟩ := ih
    have hl : (p0 :: p1 :: p2 :: rest).length / 3 = rest.length / 3 + 1 := by simp; omega
    rw [drainPairs, h1, h2, hl, Nat.mul_add]
    refine ⟨by simp, ?_⟩
    rw [show BitVec.ofNat 32 (rest.length / 3 + 1) = BitVec.ofNat 32 (rest.length / 3) + 1 by
      simp [BitVec.ofNat_add]]
    ring
  | case2 => simp [drainPairs]
  | case3 => simp [drainPairs]
  | case4 => simp [drainPairs]

/-- Draining keeps the canonical form of PIX. -/
theorem drainPairs_wf (q : List Pair) (idx : Word) (m : Memory) (h : m.wf) : (drainPairs q idx m).mem.wf := by
  induction q, idx, m using drainPairs.induct with
  | case1 idx m p0 p1 p2 rest ih => exact ih (wf_writePixel _ _ _ h)
  | case2 => exact h
  | case3 => exact h
  | case4 => exact h

/-- Flushing empties the buffer and moves past one pixel when pairs were left. -/
theorem flushPairs_counts (q : List Pair) (idx : Word) (m : Memory) :
    (flushPairs q idx m).q = [] ∧
      (flushPairs q idx m).idx = idx + BitVec.ofNat 32 (needFlush q.length) := by
  unfold flushPairs
  split <;> simp [needFlush]

theorem flushPairs_wf (q : List Pair) (idx : Word) (m : Memory) (h : m.wf) : (flushPairs q idx m).mem.wf := by
  unfold flushPairs
  split <;> first | exact h | exact wf_writePixel _ _ _ h

/-- Filling reads `need_dec` pixels, three pairs each, and does not write PIX. -/
theorem filled_counts (s : State) :
    s.filled.mem = s.pix ∧ s.filled.idx = s.pk.pixIdx + BitVec.ofNat 32 (needDec s.occ) ∧
      s.filled.q.length = s.occ + 3 * needDec s.occ := by
  unfold State.filled needDec State.occ
  by_cases h4 : 4 ≤ s.pk.q.length
  · simp [fillPairs, h4, Nat.not_lt.mpr h4]
  · by_cases h1 : 4 ≤ s.pk.q.length + 3
    · simp [fillPairs, h4, h1, Nat.not_le.mp h4, pixPairs, Nat.not_lt.mpr h1]
    · have h5 : s.pk.q.length + 3 < 4 := by omega
      simp [fillPairs, h4, h1, h5, Nat.not_le.mp h4, pixPairs, add_assoc]

/-- What PkDecByte leaves: four pairs fewer than the filled buffer, the index past the pixels read, PIX as it was. -/
theorem pkDecByte_snd (s : State) :
    (pkDecByte s).2 = { s with pk := { s.pk with
      q := s.filled.q.drop 4, pixIdx := s.pk.pixIdx + BitVec.ofNat 32 (needDec s.occ) } } := by
  obtain ⟨hm, hi, -⟩ := filled_counts s
  simp [pkDecByte, State.withFlow, hm, hi]

/-- What a packer command can do (R169 to R171). -/
theorem packerEffect_cases (d : PkMode) (n : Nat) (f : State → State) (s : State) :
    (wrongWay d s.pk.mode = true ∧ packerEffect d n f s = raiseError .pkDirection s) ∨
      (wrongWay d s.pk.mode = false ∧ s.npix < s.pk.pixIdx.toNat + n ∧
        packerEffect d n f s = raiseError .pixelRange s) ∨
      (wrongWay d s.pk.mode = false ∧ s.pk.pixIdx.toNat + n ≤ s.npix ∧
        packerEffect d n f s = succeed { f s with pk := { (f s).pk with mode := d } }) := by
  unfold packerEffect State.pixelsExist
  cases wrongWay d s.pk.mode
  · by_cases h : s.pk.pixIdx.toNat + n ≤ s.npix
    · simp [h]
    · simp [h, Nat.not_le.mp h]
  · simp

/-! Transitions -/

/-- With nothing scheduled a step is the sequencer's turn. -/
theorem step_idle_schedule (s : State) (h : s.schedule = []) : step s = sequencerStep Config.params s := by
  simp [step, nextTransition, h]

/-- With an event scheduled a step performs it. -/
theorem step_event (s : State) (e : Event) (rest : List Event) (h : s.schedule = e :: rest) :
    step s = perform e { s with schedule := rest } := by
  simp [step, nextTransition, h]

/-- A faulted model's sequencer stands still. -/
theorem sequencerStep_faulted (P : Config.Params) (s : State) (h : s.faultedBy ≠ none) :
    sequencerStep P s = .next s := by
  simp [sequencerStep, (faulted_eq_true s).mpr h]

/-- What a host access to its own memories can do. -/
theorem ownMemory_cases (s : State) (f : State → State) :
    (s.faultedBy ≠ none ∧ ownMemory s f = .next s) ∨
      (s.faultedBy = none ∧ s.busy = true ∧ ownMemory s f = .refused .hostDutyBroken) ∨
      (s.faultedBy = none ∧ s.busy = false ∧ ownMemory s f = .next (f s)) := by
  unfold ownMemory
  cases hf : s.faulted
  · have := (faulted_eq_false s).mp hf
    cases hb : s.busy <;> simp [this]
  · simp [(faulted_eq_true s).mp hf]

end Sys2Proof.Machine
end

