-- ==== Sys2Proof/Laws/PerInstr.lean ====
section
/-! SUPPORT. Families of statements about every command, one lemma per constructor. -/

/-- The reserved field of every command's word is 0 (30_encoding.md R81). -/
def Sys2Proof.Laws.RsvZero.Statement (i : Sys2Proof.Instr) : Prop := Sys2Proof.fieldRsv (Sys2Proof.encode i) = 0

namespace Sys2Proof.Laws.RsvZero

/-- Format C puts zeros in the reserved field. -/
theorem fieldRsv_formatC (opc : Byte) (k : BitVec 1) (imm : Byte) : fieldRsv (formatC opc k imm) = 0 := by
  apply BitVec.eq_of_getLsbD_eq
  intro i hi
  simp only [fieldRsv, formatC, BitVec.getLsbD_extractLsb', BitVec.getLsbD_append]
  interval_cases i <;> simp

theorem nop : Statement .nop := fieldRsv_formatC ..
theorem seedPush (k : KsId) (b : Byte) : Statement (.seedPush k b) := fieldRsv_formatC ..
theorem seedClear (k : KsId) : Statement (.seedClear k) := fieldRsv_formatC ..
theorem ksSeed (k : KsId) : Statement (.ksSeed k) := fieldRsv_formatC ..
theorem ksBit (k : KsId) : Statement (.ksBit k) := fieldRsv_formatC ..
theorem ksByte (k : KsId) : Statement (.ksByte k) := fieldRsv_formatC ..
theorem ksXor (k : KsId) (b : Byte) : Statement (.ksXor k b) := fieldRsv_formatC ..
theorem hdrNew : Statement .hdrNew := fieldRsv_formatC ..
theorem hdrAdd (b : Byte) : Statement (.hdrAdd b) := fieldRsv_formatC ..
theorem hdrSet (v : Byte) : Statement (.hdrSet v) := fieldRsv_formatC ..
theorem hdrByte (j : Byte) : Statement (.hdrByte j) := fieldRsv_formatC ..
theorem pkReset : Statement .pkReset := fieldRsv_formatC ..
theorem pkEncByte (b : Byte) : Statement (.pkEncByte b) := fieldRsv_formatC ..
theorem pkEncFlush : Statement .pkEncFlush := fieldRsv_formatC ..
theorem pkDecByte : Statement .pkDecByte := fieldRsv_formatC ..
theorem plEncrypt (v : Byte) : Statement (.plEncrypt v) := fieldRsv_formatC ..
theorem plDecrypt : Statement .plDecrypt := fieldRsv_formatC ..
theorem plCancel : Statement .plCancel := fieldRsv_formatC ..
theorem plAck : Statement .plAck := fieldRsv_formatC ..

end Sys2Proof.Laws.RsvZero
end

