-- ==== Sys2Proof/Tests/Slice0.lean ====
section
/-! SUPPORT. The model's own tests: the well-formedness smoke test, the decoding of a written-out word for every
constructor (30_encoding.md R83), single commands and steps with the values of the rules' examples and of
95_test_vectors.md, and, for every statement with hypotheses, a state and operands that meet them together. -/

namespace Sys2Proof.Tests

open Sys2Proof Sys2Proof.Machine

/-! Well-formedness (R84) -/

theorem test_headerByte_five_is_refused : Instr.wellFormed (.hdrByte 5) = false := by decide
theorem test_headerByte_four_is_accepted : Instr.wellFormed (.hdrByte 4) = true := by decide

/-! Decoding: every word is {OPC, RSV = 0, K, IMM8} of R83 -/

theorem test_decode_nop : decodeTableWord 32 0x00000000 = some .nop := by decide
theorem test_decode_seedPush : decodeTableWord 32 0x010001AB = some (.seedPush .ks1 0xAB) := by decide
theorem test_decode_seedClear : decodeTableWord 32 0x02000100 = some (.seedClear .ks1) := by decide
theorem test_decode_ksSeed : decodeTableWord 32 0x03000000 = some (.ksSeed .ks0) := by decide
theorem test_decode_ksBit : decodeTableWord 32 0x04000100 = some (.ksBit .ks1) := by decide
theorem test_decode_ksByte : decodeTableWord 32 0x05000000 = some (.ksByte .ks0) := by decide
theorem test_decode_ksXor : decodeTableWord 32 0x06000166 = some (.ksXor .ks1 0x66) := by decide
theorem test_decode_hdrNew : decodeTableWord 32 0x10000000 = some .hdrNew := by decide
theorem test_decode_hdrAdd : decodeTableWord 32 0x110000E2 = some (.hdrAdd 0xE2) := by decide
theorem test_decode_hdrSet : decodeTableWord 32 0x12000001 = some (.hdrSet 1) := by decide
theorem test_decode_hdrByte : decodeTableWord 32 0x13000004 = some (.hdrByte 4) := by decide
theorem test_decode_pkReset : decodeTableWord 32 0x20000000 = some .pkReset := by decide
theorem test_decode_pkEncByte : decodeTableWord 32 0x210000FF = some (.pkEncByte 0xFF) := by decide
theorem test_decode_pkEncFlush : decodeTableWord 32 0x22000000 = some .pkEncFlush := by decide
theorem test_decode_pkDecByte : decodeTableWord 32 0x23000000 = some .pkDecByte := by decide
theorem test_decode_plEncrypt : decodeTableWord 32 0x30000001 = some (.plEncrypt 1) := by decide
theorem test_decode_plDecrypt : decodeTableWord 32 0x31000000 = some .plDecrypt := by decide
theorem test_decode_plCancel : decodeTableWord 32 0x32000000 = some .plCancel := by decide
theorem test_decode_plAck : decodeTableWord 32 0x33000000 = some .plAck := by decide

/-- The illegal words of 95_test_vectors.md section 2.1. -/
theorem test_decode_refuses_illegal_words :
    decodeTableWord 32 0x00000001 = none ∧ decodeTableWord 32 0x07000000 = none ∧
    decodeTableWord 32 0x10000100 = none ∧ decodeTableWord 32 0x01000200 = none ∧
    decodeTableWord 32 0x13000005 = none ∧ decodeTableWord 32 0x30000100 = none ∧
    decodeTableWord 32 0xFFFFFFFF = none := by decide

/-! Small states -/

/-- A value of the state a transition gives, if it gives one. -/
def observe {α : Type} (r : Result) (f : State → α) : Option α :=
  match r with
  | .next s => some (f s)
  | .fault _ => none
  | .refused _ => none

/-- Pixels 0 to n-1, each of value v. -/
def image (n : Nat) (v : Word) : Memory :=
  match n with
  | 0 => []
  | n + 1 => (image n v).writePixel n v

/-- IMG4 of 95_test_vectors.md: 2x2, every pixel 0x12345678. -/
def img4 : State := { State.reset with width := 2, height := 2, pix := image 4 0x12345678 }

/-- A 3x3 image of zero pixels with one payload byte 0x41 (CAP = 6 = 5 + SIZE). -/
def img9 : State := { State.reset with width := 3, height := 3, size := 1, input := [(0, 0x41)] }

/-- Sixteen staged bytes, all zero (SEED_Z). -/
def seedZ : SeedStage := { buf := Vector.replicate 16 0, cnt := 16 }

/-- State B of 95_test_vectors.md section 2.4: instance 1 set directly. -/
def stateB : State :=
  { State.reset with ks1 :=
    { lfsr := #v[0x1ACE5, 0x2B00B, 0x00001, 0x1FFFFF, 0x80000]
      tap := #v[0x12000, 0x20400, 0x10020, 0x140000, 0x90000]
      valid := true } }

/-- The header of the R115 example: version 1, size 123456. -/
def header123456 : Header :=
  { version := 1, size := 0x0001E240, count := 5, complete := true, unsup := false, hsize := 5 }

/-- An unsupported header: first byte 0xFF (R114). -/
def headerUnsup : Header :=
  { version := 0xFF, size := 0, count := 1, complete := false, unsup := true, hsize := 0 }

/-- TAPTAB_EX of 95_test_vectors.md section 0, with a slicing that yields zeros, as SEED_Z's does. -/
def exampleParams : Config.Params :=
  { tapTab := fun i j => BitVec.ofNat 32 (2 ^ (Config.wid i - 1) + 2 * j.val + 1)
    seedSlice := fun _ => { init := fun _ => 0, idx := fun _ => 0 }
    ks0Algo := .lfsr
    legacyKs := fun _ n => BitVec.ofNat 8 n
    v0Policy := .reject
    sizeSigned := true }

/-! Single commands -/

/-- HDR_BYTE 5 has no word: the term acts as the illegal word does (R102). -/
theorem test_headerByte_five_acts_as_illegal_word :
    observe (exec (.hdrByte 5) State.reset) (csrValue · 0x08) = some 0x00000800 := by decide

/-- R104: not even CODE changes. -/
theorem test_nop_keeps_code :
    observe (exec .nop { State.reset with code := .pixelRange }) (csrValue · 0x08) = some 0x00000B00 := by decide

/-- 95 section 2.3: SEED_PUSH 1, 0xAB from reset. -/
theorem test_seedPush_first_byte :
    observe (exec (.seedPush .ks1 0xAB) State.reset) (fun s => (csrValue s 0x30, csrValue s 0xB0)) =
      some (0x00000100, 0x000000AB) := by decide
/-- 95 section 2.3: the 17th byte is dropped. -/
theorem test_seedPush_seventeenth_byte :
    observe (exec (.seedPush .ks0 0xAA) { State.reset with seed0 := seedZ })
      (fun s => (csrValue s 0x30, csrValue s 0xA0)) = some (0x00000011, 0) := by decide

/-- 95 section 2.3: SEED_CLEAR 0 from count 17. -/
theorem test_seedClear_leaves_count_seventeen :
    observe (exec (.seedClear .ks0) { State.reset with seed0 := { seedZ with cnt := 17 } }) (csrValue · 0x30) =
      some 0 := by decide

/-- 95 section 2.4: SEED_Z under TAPTAB_EX. -/
theorem test_ksSeed_zero_seed :
    (ksSeedEffect exampleParams .ks1 { State.reset with seed1 := seedZ }).ks1 =
      { lfsr := #v[1, 1, 1, 1, 1], tap := #v[0x10001, 0x20001, 0x10001, 0x100001, 0x80001], valid := true } := by
  decide
/-- 95 section 2.4: 15 staged bytes give INVALID_SEED. -/
theorem test_ksSeed_fifteen_bytes :
    observe (exec (.ksSeed .ks0) { State.reset with seed0 := { seedZ with cnt := 15 } }) (csrValue · 0x08) =
      some 0x00000500 := by decide

/-- R143's example. -/
theorem test_ksBit_state_B :
    observe (exec (.ksBit .ks1) stateB) (fun s => (s.result, s.ks1.lfsr)) =
      some (0, #v[0x1F672, 0x35C05, 0x10020, 0x1BFFFF, 0x40000]) := by decide
/-- 95 section 2.4: an instance that has not been constructed. -/
theorem test_ksBit_not_seeded :
    observe (exec (.ksBit .ks1) State.reset) (csrValue · 0x08) = some 0x00000900 := by decide

/-- R144's example. -/
theorem test_ksByte_state_B : observe (exec (.ksByte .ks1) stateB) (·.result) = some 0x15 := by decide
/-- R144: under LEGACY, instance 0 gives LEGACY_KS(LSEED, LPOS) and advances LPOS. -/
theorem test_ksByte_legacy :
    (fun s : State => (s.result, s.lpos)) (ksByteEffect { exampleParams with ks0Algo := .legacy } .ks0
      { State.reset with ks0 := { Keystream.unseeded with valid := true }, lpos := 7 }) = (7, 8) := by decide

/-- R145's example. -/
theorem test_ksXor_state_B : observe (exec (.ksXor .ks1 0x41) stateB) (·.result) = some 0x54 := by decide
/-- 95 section 2.4: RESULT is kept. -/
theorem test_ksXor_not_seeded :
    observe (exec (.ksXor .ks0 0x41) { State.reset with result := 0x77 }) (fun s => (s.code, s.result)) =
      some (.ksNotSeeded, 0x77) := by decide

/-- R113's example, from the unsupported state. -/
theorem test_hdrNew_from_unsupported :
    observe (exec .hdrNew { State.reset with hdr := headerUnsup }) (csrValue · 0x1C) = some 0 := by decide

/-- R114's example: the first byte 0xFF. -/
theorem test_hdrAdd_unsupported_version :
    observe (exec (.hdrAdd 0xFF) State.reset) (fun s => (csrValue s 0x1C, csrValue s 0x20)) =
      some (0x000011FF, 0) := by decide
/-- 95 section 1.7: the fifth byte. -/
theorem test_hdrAdd_fifth_byte :
    observe (exec (.hdrAdd 0x40) { State.reset with hdr := { Header.empty with version := 1, size := 0x1E2, count := 4 } })
      (fun s => (csrValue s 0x1C, csrValue s 0x20)) = some (0x00050D01, 0x0001E240) := by decide

/-- R115's example. -/
theorem test_hdrSet_current_version :
    observe (exec (.hdrSet 1) { State.reset with size := 123456 }) (fun s => (csrValue s 0x1C, csrValue s 0x20)) =
      some (0x00050D01, 0x0001E240) := by decide
/-- 95 section 2.2: version 2 leaves the header and gives 0x01. -/
theorem test_hdrSet_version_two :
    observe (exec (.hdrSet 2) { State.reset with hdr := header123456 })
      (fun s => (csrValue s 0x08, csrValue s 0x1C)) = some (0x00000100, 0x00050D01) := by decide

/-- R116's example, HDR_BYTE 3. -/
theorem test_hdrByte_three :
    observe (exec (.hdrByte 3) { State.reset with hdr := header123456 }) (·.result) = some 0xE2 := by decide
/-- R116's example, HDR_BYTE 2: the size is big-endian. -/
theorem test_hdrByte_two :
    observe (exec (.hdrByte 2) { State.reset with hdr := header123456 }) (·.result) = some 0x01 := by decide

/-- R168's example. -/
theorem test_pkReset_clears :
    observe (exec .pkReset { State.reset with pk := { q := [3, 3], mode := .enc, pixIdx := 2 } })
      (fun s => (csrValue s 0x24, csrValue s 0x28)) = some (0, 0) := by decide

/-- R169's example. -/
theorem test_pkEncByte_first_byte :
    observe (exec (.pkEncByte 0x00) img4) (fun s => (s.pix.readPixel 0, csrValue s 0x24, csrValue s 0x28)) =
      some (0x10345478, 0x00010001, 1) := by decide
/-- 95 section 2.5: the third byte, 0x3C, writes pixels 2 and 3. -/
theorem test_pkEncByte_two_pixels :
    observe (exec (.pkEncByte 0x3C) { img4 with pk := { q := [3, 3], mode := .enc, pixIdx := 2 } })
      (fun s => (s.pix.readPixel 2, s.pix.readPixel 3, csrValue s 0x28)) =
      some (0x13375478, 0x13375478, 4) := by decide

/-- R170's example: zero pairs pad. -/
theorem test_pkEncFlush_pads_with_zeros :
    observe (exec .pkEncFlush { img4 with pk := { q := [0], mode := .enc, pixIdx := 1 } })
      (fun s => (s.pix.readPixel 1, csrValue s 0x28)) = some (0x10345478, 2) := by decide
/-- 95 section 2.5: a flush past the last pixel. -/
theorem test_pkEncFlush_pixel_range :
    observe (exec .pkEncFlush { img4 with pk := { q := [0], mode := .enc, pixIdx := 4 } }) (csrValue · 0x08) =
      some 0x00000B00 := by decide

/-- 95 section 2.5: the second PK_DEC_BYTE of [00, FF, 3C]. -/
theorem test_pkDecByte_second_byte :
    observe (exec .pkDecByte { img4 with
        pix := (image 4 0).writePixel 2 0x13375478, pk := { q := [3, 3], mode := .dec, pixIdx := 2 } })
      (fun s => (s.result, csrValue s 0x24, csrValue s 0x28)) = some (0xFF, 0x00020001, 3) := by decide
/-- 95 section 2.5: the other direction is refused. -/
theorem test_pkDecByte_direction :
    observe (exec .pkDecByte { img4 with pk := { q := [], mode := .enc, pixIdx := 4 } }) (csrValue · 0x08) =
      some 0x00000C00 := by decide

/-- 95 section 2.6: STATUS after PL_ENCRYPT 1, unmasked. -/
theorem test_plEncrypt_starts :
    observe (exec (.plEncrypt 1) img9) (fun s => (csrValue s 0x08, csrValue s 0x1C)) =
      some (0x00040011, 0x00050D01) := by decide
/-- 95 section 2.6: SIZE = 2 does not fit. -/
theorem test_plEncrypt_image_too_small :
    observe (exec (.plEncrypt 1) { img9 with size := 2 }) (csrValue · 0x08) = some 0x00000480 := by decide

/-- R188's example. -/
theorem test_plDecrypt_starts :
    observe (exec .plDecrypt img9) (fun s => (csrValue s 0x08, csrValue s 0x24)) =
      some (0x00000041, 0x00020000) := by decide
/-- 95 section 2.6: masking with no staged seed. -/
theorem test_plDecrypt_invalid_seed :
    observe (exec .plDecrypt { img9 with maskEn := true }) (csrValue · 0x08) = some 0x00000580 := by decide

/-- R193's example. -/
theorem test_plCancel_aborts :
    observe (exec .plCancel { img9 with plState := .encHdr, psel := .ks1 }) (csrValue · 0x08) =
      some 0x00040690 := by decide
/-- 95 section 2.1: from IDLE it has no effect. -/
theorem test_plCancel_in_idle :
    observe (exec .plCancel { img9 with code := .pkDirection }) (csrValue · 0x08) = some 0x00000C00 := by decide

/-- R194's example. -/
theorem test_plAck_from_failed :
    observe (exec .plAck { img9 with plState := .failed, code := .imageTooSmall, rej := true }) (csrValue · 0x08) =
      some 0 := by decide
/-- 95 section 2.1: rejected while BUSY. -/
theorem test_plAck_while_busy :
    observe (exec .plAck { img9 with plState := .decPay }) (csrValue · 0x08) = some 0x80000061 := by decide

/-! Steps, accesses and the fetch -/

/-- 95 section 1.8: the first DEC_HDR step on an image of ones, unmasked. -/
theorem test_decHdr_unsupported_version :
    observe (step { img9 with
        pix := image 2 0xFFFFFFFF, plState := .decHdr, pk := { q := [], mode := .dec, pixIdx := 0 } })
      (fun s => (csrValue s 0x08, csrValue s 0x1C, csrValue s 0x24)) =
      some (0x00000180, 0x000011FF, 0x000200F2) := by decide
/-- 95 section 2.6: the host refuses HostAlloc. -/
theorem test_decAlloc_refused :
    observe (stepDecAlloc exampleParams { img9 with allocAnswer := false, hdr := { header123456 with size := 1 } })
      (fun s => (csrValue s 0x08, s.outSize)) = some (0x00000380, none) := by decide
/-- 95 section 2.1: a misaligned read faults the model, and no later write has an effect. -/
theorem test_misaligned_read_faults :
    observe (step { State.reset with schedule := [.csrRead 0x0A 32] }) (·.faultedBy) = some (some .misalignedCsr) ∧
    observe (csrWrite 0x18 32 5 { State.reset with faultedBy := some .misalignedCsr }) (·.size) = some 0 := by decide
/-- 95 section 2.1: WR IMG_DIM, 0x00030002. -/
theorem test_write_imgDim :
    observe (csrWrite 0x14 32 0x00030002 State.reset) (fun s => (s.width, s.height)) = some (2, 3) := by decide
/-- The very next step after `withFetchWord` runs the word: HDR_ADD 0xFF from reset (R114). -/
theorem test_step_runs_the_placed_word :
    observe (step (State.reset.withFetchWord 32 0x110000FF)) (csrValue · 0x1C) = some 0x000011FF := by decide

/-! Witnesses: states and operands that meet the hypotheses of each statement together -/

/-- `img9` after PL_ENCRYPT 1. -/
def encStart : State :=
  { img9 with psel := .ks1, hdr := completeHeader 1 1, pk := { Packer.fresh with mode := .enc }, plState := .encHdr }

/-- Five header bytes packed: 20 pairs, 6 pixels and 2 pairs left. -/
def encPayload : State :=
  { encStart with byteCnt := 5, plState := .encPay, pk := { q := [0, 1], mode := .enc, pixIdx := 6 } }

/-- A flush that writes pixel 8, the last of the image. -/
def encLast : State := { encStart with byteCnt := 6, plState := .encFlush, pk := { q := [1], mode := .enc, pixIdx := 8 } }

/-- `img9` after PL_DECRYPT. -/
def decStart : State := { img9 with pk := { Packer.fresh with mode := .dec }, plState := .decHdr }

/-- Five header bytes parsed: 7 pixels read, one pair left; the header says version 1, one byte. -/
def decAllocated : State :=
  { img9 with
    hdr := completeHeader 1 1, byteCnt := 5, plState := .decAlloc, pk := { q := [1], mode := .dec, pixIdx := 7 } }

/-- The payload byte is next, with one byte of OUT granted. -/
def decPayload : State := { decAllocated with plState := .decPay, outSize := some 1 }

/-- A packer in the middle of an encode on `img4`. -/
def encMid : State := { img4 with pk := { q := [3, 3], mode := .enc, pixIdx := 2 } }

/-- A packer in the middle of a decode on `img4`. -/
def decMid : State := { img4 with pk := { q := [], mode := .dec, pixIdx := 2 } }

theorem encStart_invariant (P : Config.Params) : encStart.Invariant P where
  header := by unfold Header.Consistent; decide
  packer := by unfold Packer.Consistent; decide
  seed0 := by unfold SeedStage.Consistent; decide
  seed1 := by unfold SeedStage.Consistent; decide
  ks0 := fun h => absurd h (by decide)
  ks1 := fun h => absurd h (by decide)
  memories := by unfold State.MemoriesWf; decide
  outcome := by unfold State.OutcomeConsistent; decide
  pipeline := show encStart.EncryptPosition ∧ encStart.byteCnt.toNat ≤ 4 by unfold State.EncryptPosition; decide

theorem decStart_invariant (P : Config.Params) : decStart.Invariant P where
  header := by unfold Header.Consistent; decide
  packer := by unfold Packer.Consistent; decide
  seed0 := by unfold SeedStage.Consistent; decide
  seed1 := by unfold SeedStage.Consistent; decide
  ks0 := fun h => absurd h (by decide)
  ks1 := fun h => absurd h (by decide)
  memories := by unfold State.MemoriesWf; decide
  outcome := by unfold State.OutcomeConsistent; decide
  pipeline :=
    show decStart.DecryptPosition ∧ decStart.byteCnt.toNat = decStart.hdr.count.toNat ∧
        decStart.hdr.unsup = false ∧ decStart.hdr.complete = false by
      unfold State.DecryptPosition; decide

theorem witness_DecodeOfEncodeIsTheCommand : Instr.wellFormed (.hdrByte 4) = true := by decide
theorem witness_EveryLegalWordIsItsCommandsEncoding : decode 0x13000004 = .ok (.hdrByte 4) := rfl
theorem witness_DecodeAgreesWithMatchAndMask :
    decode 0x13000004 = .ok (.hdrByte 4) ∧
    ∃ r ∈ opcodeMap, r.mnemonic = "HDR_BYTE" ∧ r.covers 0x13000004 = true ∧ r.covers 0x13000005 = false := by decide
theorem witness_OpcodeRowsAreDisjoint :
    ∃ r ∈ opcodeMap, ∃ q ∈ opcodeMap,
      0x010001AB &&& r.mask = r.matchWord ∧ 0x010001AB &&& q.mask = q.matchWord := by decide
theorem witness_StepRunsTheSubmittedCommand :
    (State.reset.withFetchWord 32 0x13000004).schedule = .csrWrite 0x04 32 0x13000004 :: [] ∧
    decode 0x13000004 = .ok (.hdrByte 4) ∧ State.reset.schedule = [] := ⟨rfl, rfl, rfl⟩
theorem witness_IllegalWordOnlyMarks :
    (State.reset.faultedBy = none ∧ State.reset.plState = .idle) ∧
    (encStart.faultedBy = none ∧ encStart.plState ≠ .idle) ∧
    decode 0x13000005 = .error .headerIndex ∧ decode 0x07000000 = .error .opcode ∧
    decode 0x00000001 = .error .unusedField := by decide
theorem witness_CommandsOutsideTheGateAreRejected :
    encStart.faultedBy = none ∧ permitted .plAck encStart.plState = false ∧ permitted .hdrNew .done = false := by
  decide
theorem witness_FaultedModelNeverMoves :
    (fun s : State => s.faultedBy = some .csrOutOfWindow ∧ s.schedule = .sequencer :: [] ∧
      Event.sequencer ≠ .reset ∧ ∀ g, Event.sequencer ≠ .answerAlloc g)
      { encStart with faultedBy := some .csrOutOfWindow, schedule := [.sequencer] } :=
  ⟨rfl, rfl, by decide, by decide⟩
/-- A 16-bit write at 0x0C, a read at 0xFFE (misaligned and outside), and a read at 0x100, the first offset outside. -/
theorem witness_BadRegisterAccessFaultsTheModel :
    (fun s t u : State => s.faultedBy = none ∧ s.schedule = .csrWrite 0x0C 16 1 :: [] ∧
      t.schedule = .csrRead 0xFFE 32 :: [] ∧ 0xFFE % 4 ≠ 0 ∧ u.schedule = .csrRead 0x100 32 :: [] ∧
      0x100 % 4 = 0 ∧ 0x100 ≤ 0x100)
      { encStart with schedule := [.csrWrite 0x0C 16 1] } { encStart with schedule := [.csrRead 0xFFE 32] }
      { encStart with schedule := [.csrRead 0x100 32] } := ⟨rfl, rfl, rfl, by decide, rfl, rfl, by decide⟩
/-- CTRL, and the last offset of the window, in IDLE, BUSY and faulted. -/
theorem witness_RegisterWritesNeedIdle :
    State.reset.faultedBy = none ∧ encStart.faultedBy = none ∧ encStart.plState ≠ .idle ∧
    0x0C % 4 = 0 ∧ 0x0C < 0x100 ∧ 0x0C ≠ 0x04 ∧ 0xFC % 4 = 0 ∧ 0xFC < 0x100 ∧
    ({ encStart with faultedBy := some .misalignedCsr } : State).faultedBy ≠ none := by decide
/-- The first and the last reserved offset of the window. -/
theorem witness_BankRegistersReadTheirElements :
    0x34 % 4 = 0 ∧ 0x34 < 0x100 ∧ 0x34 ∈ [0x34, 0x38, 0x3C, 0x68, 0x6C, 0x98, 0x9C] ∧
    0xFC % 4 = 0 ∧ 0xFC < 0x100 ∧ 0xC0 ≤ 0xFC := by decide
theorem witness_PrimitiveCommandsKeepTheResultConventions :
    (Instr.ksByte .ks1).primitive = true ∧ (Instr.ksByte .ks1).wellFormed = true ∧ stateB.Ready ∧
    (Instr.hdrNew).primitive = true ∧ (Instr.hdrNew).wellFormed = true ∧ (Instr.hdrNew).yieldsByte = false :=
  ⟨rfl, rfl, ⟨rfl, rfl⟩, rfl, rfl, rfl⟩
theorem witness_SeedPushStagesOneByte :
    ({ State.reset with seed0 := seedZ } : State).Ready ∧
    ∃ t, step (submitNext 0x02000000 { State.reset with seed0 := { seedZ with cnt := 17 } }) = .next t ∧
      (t.seed .ks0).cnt ≠ 17 := ⟨⟨rfl, rfl⟩, _, rfl, by decide⟩
theorem witness_SeedClearEmptiesTheBuffer : ({ State.reset with seed0 := seedZ } : State).Ready := ⟨rfl, rfl⟩
theorem witness_KsSeedConstructsTheInstance :
    ({ State.reset with seed0 := seedZ } : State).Ready ∧
    (({ State.reset with seed0 := seedZ } : State).seed .ks0).cnt = 16 ∧
    (({ State.reset with seed0 := { seedZ with cnt := 17 } } : State).seed .ks0).cnt ≠ 16 :=
  ⟨⟨rfl, rfl⟩, rfl, by decide⟩
theorem witness_KsBitClocksEveryRegister : stateB.Ready ∧ (stateB.ks .ks1).valid = true := ⟨⟨rfl, rfl⟩, rfl⟩
theorem witness_KsByteAndKsXorDrawOneByte : stateB.Ready ∧ (stateB.ks .ks1).valid = true := ⟨⟨rfl, rfl⟩, rfl⟩
theorem witness_UnseededInstanceYieldsNoByte : stateB.Ready ∧ (stateB.ks .ks0).valid = false := ⟨⟨rfl, rfl⟩, rfl⟩
theorem witness_KsXorFromEqualStatesUnmasks :
    ∃ t v, stateB.Ready ∧ (stateB.ks .ks1).valid = true ∧ exec (.ksXor .ks1 0x41) stateB = .next t ∧
      exec (.ksXor .ks1 t.result) stateB = .next v := ⟨_, _, ⟨rfl, rfl⟩, rfl, rfl, rfl⟩
theorem witness_RegistersStayNonZeroUnderAWellFormedTable : exampleParams.TapTabWf := by
  intro i j
  have hj := j.isLt
  fin_cases i <;> simp [exampleParams, Config.wid] <;> omega
theorem witness_EqualSeedsGiveEqualByteSequences :
    exampleParams.ks0Algo = .lfsr ∧ ({ stateB with seed0 := seedZ } : State).seed0.buf =
      ({ State.reset with seed1 := seedZ } : State).seed1.buf := ⟨rfl, rfl⟩
theorem witness_HdrNewEmptiesTheHeader :
    ({ State.reset with hdr := headerUnsup } : State).Ready ∧ encStart.faultedBy = none ∧ encStart.plState ≠ .idle :=
  ⟨⟨rfl, rfl⟩, rfl, by decide⟩
theorem witness_HdrAddFeedsOneByte : ({ State.reset with hdr := { Header.empty with count := 4 } } : State).Ready :=
  ⟨rfl, rfl⟩
theorem witness_HdrSetBuildsACompleteHeader : ({ State.reset with size := 123456 } : State).Ready := ⟨rfl, rfl⟩
theorem witness_HdrByteReadsTheSerialisedHeader :
    ({ State.reset with hdr := header123456 } : State).Ready ∧ (4 : Byte).toNat ≤ 4 ∧ 4 < (5 : Byte).toNat ∧
    headerUnsup.Consistent ∧ headerUnsup.unsup = true :=
  ⟨⟨rfl, rfl⟩, by decide, by decide, by unfold Header.Consistent; decide, rfl⟩
theorem witness_HeaderRoundTripTakesFiveBytes :
    header123456.complete = true ∧ header123456.version.toNat ≤ 1 ∧ 4 < 5 := by decide
theorem witness_PkResetStartsAfresh : encMid.Ready := ⟨rfl, rfl⟩
/-- Two pairs buffered and pixels 2 and 3, the last two of the image. -/
theorem witness_PkEncByteWritesTheNextPixels :
    encMid.Ready ∧ encMid.pk.mode ≠ .dec ∧ encMid.occ ≤ 2 ∧
    encMid.pk.pixIdx.toNat + needEnc encMid.occ ≤ encMid.width.toNat * encMid.height.toNat ∧ 1 < needEnc encMid.occ :=
  ⟨⟨rfl, rfl⟩, by decide, by decide, by decide, by decide⟩
theorem witness_PkEncFlushWritesTheLastPixel :
    encMid.Ready ∧ encMid.pk.mode ≠ .dec ∧ encMid.occ ≤ 2 ∧ encMid.pk.q ≠ [] ∧
    encMid.pk.pixIdx.toNat + needFlush encMid.occ ≤ encMid.width.toNat * encMid.height.toNat :=
  ⟨⟨rfl, rfl⟩, by decide, by decide, by decide, by decide⟩
/-- An empty buffer at pixel 2: pixels 2 and 3, the last two, are read. -/
theorem witness_PkDecByteReadsTheNextPixels :
    decMid.Ready ∧ decMid.pk.mode ≠ .enc ∧ decMid.occ ≤ 2 ∧
    decMid.pk.pixIdx.toNat + needDec decMid.occ ≤ decMid.width.toNat * decMid.height.toNat :=
  ⟨⟨rfl, rfl⟩, by decide, by decide, by decide⟩
/-- Each direction error, and each range error one pixel past the last. -/
theorem witness_PackerErrorsChangeOnlyCode :
    (decMid.Ready ∧ decMid.pk.mode = .dec) ∧ (encMid.Ready ∧ encMid.pk.mode = .enc) ∧
    (fun s : State => s.Ready ∧ s.pk.mode ≠ .dec ∧
      s.width.toNat * s.height.toNat < s.pk.pixIdx.toNat + (s.occ + 4) / 3 ∧ 0 < s.occ ∧
      s.width.toNat * s.height.toNat < s.pk.pixIdx.toNat + 1)
      { img4 with pk := { q := [0], mode := .enc, pixIdx := 4 } } ∧
    (fun s : State => s.Ready ∧ s.pk.mode ≠ .dec ∧ s.occ = 0 ∧ s.width.toNat * s.height.toNat < s.pk.pixIdx.toNat)
      { img4 with width := 1, pk := { q := [], mode := .enc, pixIdx := 3 } } ∧
    (fun s : State => s.Ready ∧ s.pk.mode ≠ .enc ∧ s.width.toNat * s.height.toNat <
        s.pk.pixIdx.toNat + (if 4 ≤ s.occ then 0 else if 4 ≤ s.occ + 3 then 1 else 2))
      { decMid with pk := { decMid.pk with pixIdx := 3 } } :=
  ⟨⟨⟨rfl, rfl⟩, rfl⟩, ⟨⟨rfl, rfl⟩, rfl⟩, ⟨⟨rfl, rfl⟩, by decide, by decide, by decide, by decide⟩,
    ⟨⟨rfl, rfl⟩, by decide, rfl, by decide⟩, ⟨⟨rfl, rfl⟩, by decide, by decide⟩⟩
/-- [0x00, 0xFF, 0x3C] fills the four pixels of `img4`. -/
theorem witness_UnpackingPackedBytesReturnsThem :
    img4.pk = Packer.fresh ∧ 4 * ([0x00, 0xFF, 0x3C] : List Byte).length ≤ 3 * img4.npix := by decide
/-- Two bytes take pixels 0 to 2; pixel 3 is the first one left alone. -/
theorem witness_PackingTouchesOnlyTheFirstPixels :
    img4.pk = Packer.fresh ∧ 4 * ([0x00, 0xFF] : List Byte).length ≤ 3 * img4.npix ∧
    (4 * ([0x00, 0xFF] : List Byte).length + 2) / 3 ≤ 3 := by decide
theorem witness_PlEncryptChecksThenStarts : img9.Ready ∧ ({ img9 with maskEn := true } : State).Ready :=
  ⟨⟨rfl, rfl⟩, ⟨rfl, rfl⟩⟩
/-- CAP = 6: N = 1 fits exactly and N = 2 does not, masked with both seeds staged. -/
theorem witness_CapacityBoundaryIsExact :
    (fun s t : State => s.Ready ∧ t.Ready ∧ (1 : Byte).toNat ≤ 1 ∧ s.maskEn = true ∧ s.seed0.cnt = 16 ∧
      s.seed1.cnt = 16 ∧ s.width.toNat * s.height.toNat * 3 / 4 = 5 + s.size.toNat ∧
      t.width.toNat * t.height.toNat * 3 / 4 = 5 + t.size.toNat - 1)
      { img9 with maskEn := true, seed0 := seedZ, seed1 := seedZ }
      { img9 with maskEn := true, seed0 := seedZ, seed1 := seedZ, size := 2 } :=
  ⟨⟨rfl, rfl⟩, ⟨rfl, rfl⟩, by decide, rfl, rfl, rfl, by decide, by decide⟩
theorem witness_PlDecryptChecksThenStarts : img9.Ready ∧ ({ img9 with maskEn := true } : State).Ready :=
  ⟨⟨rfl, rfl⟩, ⟨rfl, rfl⟩⟩
theorem witness_PlCancelAbortsABusyOperation : decPayload.faultedBy = none ∧ State.reset.faultedBy = none := ⟨rfl, rfl⟩
theorem witness_PlAckReturnsToIdle : decPayload.faultedBy = none ∧ State.reset.faultedBy = none := ⟨rfl, rfl⟩
theorem witness_EncHdrStepPacksAHeaderByte :
    encStart.SequencerNext ∧ encStart.plState = .encHdr ∧ encStart.byteCnt.toNat ≤ 4 ∧
    encStart.pk.pixIdx.toNat + needEnc encStart.occ ≤ encStart.npix := ⟨⟨rfl, rfl⟩, rfl, by decide, by decide⟩
theorem witness_EncPayStepPacksAPayloadByte :
    encPayload.SequencerNext ∧ encPayload.plState = .encPay ∧ 5 ≤ encPayload.byteCnt.toNat ∧
    encPayload.byteCnt.toNat < 5 + encPayload.size.toNat ∧ 5 + encPayload.size.toNat ≤ encPayload.cap ∧
    encPayload.pk.pixIdx.toNat + needEnc encPayload.occ ≤ encPayload.npix :=
  ⟨⟨rfl, rfl⟩, rfl, by decide, by decide, by decide, by decide⟩
theorem witness_EncFlushStepEndsTheEncrypt :
    encLast.SequencerNext ∧ encLast.plState = .encFlush ∧
    encLast.pk.pixIdx.toNat + needFlush encLast.occ ≤ encLast.npix := ⟨⟨rfl, rfl⟩, rfl, by decide⟩
/-- A 1x1 image has one pixel too few for the first byte, and a 2x1 image has just enough. -/
theorem witness_DecHdrStepParsesAHeaderByte :
    (fun s t : State => s.SequencerNext ∧ s.plState = .decHdr ∧ s.npix < s.pk.pixIdx.toNat + needDec s.occ ∧
      t.SequencerNext ∧ t.plState = .decHdr ∧ t.pk.pixIdx.toNat + needDec t.occ ≤ t.npix)
      { decStart with width := 1, height := 1 } { decStart with width := 2, height := 1 } :=
  ⟨⟨rfl, rfl⟩, rfl, by decide, ⟨rfl, rfl⟩, rfl, by decide⟩
theorem witness_DecAllocStepSelectsThePayloadKeystream :
    decAllocated.SequencerNext ∧ decAllocated.plState = .decAlloc := ⟨⟨rfl, rfl⟩, rfl⟩
theorem witness_DecPayStepStoresAPayloadByte :
    decPayload.SequencerNext ∧ decPayload.plState = .decPay ∧ 5 ≤ decPayload.byteCnt.toNat ∧
    decPayload.byteCnt.toNat < 5 + decPayload.hdr.size.toNat ∧ 5 + decPayload.hdr.size.toNat ≤ decPayload.cap ∧
    decPayload.outSize = some decPayload.hdr.size.toNat ∧
    decPayload.pk.pixIdx.toNat + needDec decPayload.occ ≤ decPayload.npix :=
  ⟨⟨rfl, rfl⟩, rfl, by decide, by decide, by decide, by decide, by decide⟩
theorem witness_PlStateMovesOnlyAlongItsArrows : ∃ t, step encLast = .next t ∧ t.plState ≠ encLast.plState :=
  ⟨_, rfl, by decide⟩
theorem witness_EveryStepKeepsTheInvariant :
    ∃ t, encStart.Invariant Config.params ∧ step encStart = .next t ∧ t.byteCnt ≠ encStart.byteCnt :=
  ⟨_, encStart_invariant _, rfl, by decide⟩
/-- W*H = 9 and HDR.SIZE = 1: pixel 9 and OUT byte 1 are the first that do not exist. -/
theorem witness_NoStepLeavesTheMemories :
    ∃ t, encStart.Invariant Config.params ∧ encStart.mover = .sequencer ∧ step encStart = .next t ∧
      t.byteCnt ≠ encStart.byteCnt ∧ encStart.width.toNat * encStart.height.toNat ≤ 9 ∧
      encStart.hdr.size.toNat ≤ 1 := ⟨_, encStart_invariant _, rfl, rfl, by decide, by decide, by decide⟩
/-- The premises of the refusing direction, and of each allowed access outside BUSY. -/
theorem witness_OnlyABrokenHostDutyIsRefused :
    (encStart.faultedBy = none ∧ encStart.busy = true ∧ (Event.inRead 0).barredWhileBusy = true ∧
      step { encStart with schedule := [.inRead 0] } = .refused .hostDutyBroken) ∧
    img9.faultedBy = none ∧ img9.busy = false ∧
    ∀ e : Event, ({ img9 with schedule := [e] } : State).schedule = e :: [] :=
  ⟨⟨rfl, rfl, rfl, rfl⟩, rfl, rfl, fun _ => rfl⟩
theorem witness_EncryptTakesExactlyItsSteps :
    encStart.Invariant Config.params ∧ encStart.SequencerNext ∧ encStart.plState = .encHdr ∧ encStart.byteCnt = 0 :=
  ⟨encStart_invariant _, ⟨rfl, rfl⟩, rfl, rfl⟩
theorem witness_DecryptEndsWithinItsSteps :
    decStart.Invariant Config.params ∧ decStart.SequencerNext ∧ decStart.plState = .decHdr ∧ decStart.byteCnt = 0 :=
  ⟨decStart_invariant _, ⟨rfl, rfl⟩, rfl, rfl⟩
set_option maxRecDepth 8000 in
/-- Version 1, one byte in an image that just holds it, unmasked, run to the end; and another state in IDLE, with other
header, packer and SIZE, that holds the same pixels. -/
theorem witness_DecryptOfEncryptRecoversThePayload :
    ∃ s1 s2, img9.Ready ∧ img9.schedule = [] ∧ (1 : Byte).toNat ≤ 1 ∧ 5 + img9.size.toNat ≤ img9.cap ∧
      img9.maskEn = false ∧ img9.size.toNat < 2 ^ 31 ∧ exec (.plEncrypt 1) img9 = .next s1 ∧
      runSteps (6 + img9.size.toNat) s1 = .next s2 ∧
      (fun u : State => u.Ready ∧ u.schedule = [] ∧ u.allocAnswer = true ∧ u.width = img9.width ∧
        u.height = img9.height ∧ u.maskEn = img9.maskEn ∧ ∀ p, p < img9.npix → u.pix.readPixel p = s2.pix.readPixel p)
        { State.reset with width := 3, height := 3, hdr := headerUnsup, size := 7, pix := s2.pix } :=
  ⟨_, _, ⟨rfl, rfl⟩, rfl, by decide, by decide, rfl, by decide, rfl, rfl,
    ⟨rfl, rfl⟩, rfl, rfl, rfl, rfl, rfl, fun _ _ => rfl⟩
/-- The masked premises, with both seeds staged. -/
theorem witness_DecryptOfEncryptRecoversThePayload_masked :
    (fun s : State => ∃ s1, s.Ready ∧ s.schedule = [] ∧ (1 : Byte).toNat ≤ 1 ∧ 5 + s.size.toNat ≤ s.cap ∧
      s.maskEn = true ∧ s.seed0.cnt = 16 ∧ s.seed1.cnt = 16 ∧ s.size.toNat < 2 ^ 31 ∧ s.allocAnswer = true ∧
      exec (.plEncrypt 1) s = .next s1) { img9 with maskEn := true, seed0 := seedZ, seed1 := seedZ } :=
  ⟨_, ⟨rfl, rfl⟩, rfl, by decide, by decide, rfl, rfl, rfl, by decide, rfl, rfl⟩

end Sys2Proof.Tests
end

section
/-! SUPPORT. The fields of STATUS (10_state.md R27, R28; 60_exceptions.md R221), and the statement about them. -/

namespace Sys2Proof.Machine

@[simp] theorem flagBit_getElem_zero (b : Bool) : (flagBit b)[0] = b := by cases b <;> rfl

@[simp] theorem pselBit_getElem_zero (k : KsId) : (pselBit k)[0] = decide (k = .ks1) := by cases k <;> rfl

/-- BUSY is set exactly in the six busy states (R27). -/
theorem busy_eq_decide_mem (s : State) :
    s.busy = decide (s.plState ∈ [.encHdr, .encPay, .encFlush, .decHdr, .decAlloc, .decPay]) := by
  unfold State.busy
  cases s.plState <;> rfl

/-- The register at offset 0x08 is STATUS (R23). -/
theorem csrValue_status (s : State) : csrValue s 0x08 = statusWord s := rfl

/-- The flags of STATUS: the append of the fields, read at one bit (R27). -/
theorem statusWord_flags (s : State) :
    (statusWord s).getLsbD 0 = s.busy ∧ (statusWord s).getLsbD 16 = s.ks0.valid ∧
    (statusWord s).getLsbD 17 = s.ks1.valid ∧ (statusWord s).getLsbD 18 = decide (s.psel = .ks1) ∧
    (statusWord s).getLsbD 31 = s.rej := by
  simp only [statusWord, BitVec.getLsbD_append]
  simp

/-- The wider fields of STATUS and its reserved bits: the append, the fields below and above dropped (R27). -/
theorem statusWord_slices (s : State) :
    (statusWord s).extractLsb' 1 3 = 0 ∧ (statusWord s).extractLsb' 4 4 = plStateBits s.plState ∧
    (statusWord s).extractLsb' 8 8 = codeBits s.code ∧ (statusWord s).extractLsb' 19 12 = 0 := by
  simp (disch := decide) only [statusWord, BitVec.extractLsb'_append_eq_of_le, BitVec.extractLsb'_append_eq_of_add_le]
  simp

/-- After reset STATUS reads 0: every flag is clear, PL_STATE is IDLE and CODE is OK (R44). -/
theorem statusWord_reset : statusWord State.reset = 0 := by decide

/-- Settles O12, field by field of the word. -/
theorem statusFieldsStandWhereTheMapPutsThem : Obligations.StatusFieldsStandWhereTheMapPutsThem := by
  refine ⟨statusWord_reset, fun s => ?_⟩
  obtain ⟨hbusy, hks0, hks1, hpsel, hrej⟩ := statusWord_flags s
  obtain ⟨hlow, hpl, hcode, hhigh⟩ := statusWord_slices s
  rw [csrValue_status]
  refine ⟨hbusy.trans (busy_eq_decide_mem s), hlow, hpl.trans ?_, hcode.trans ?_, hks0, hks1, hpsel, hhigh, hrej⟩
  · cases s.plState <;> rfl
  · cases s.code <;> rfl

end Sys2Proof.Machine
end

section
/-! SUPPORT. What a reset makes of each element of the state (10_state.md R44; 70_reset_and_hazards.md R250, R252), and
the statement about it. -/

namespace Sys2Proof.Machine

section
variable (s : State)

/-- A reset is never refused, not even in a faulted state (R250). -/
theorem perform_reset : perform .reset s = .next (applyReset s) := rfl

@[simp] theorem applyReset_maskEn : (applyReset s).maskEn = false := rfl
@[simp] theorem applyReset_width : (applyReset s).width = 0 := rfl
@[simp] theorem applyReset_height : (applyReset s).height = 0 := rfl
@[simp] theorem applyReset_size : (applyReset s).size = 0 := rfl
@[simp] theorem applyReset_result : (applyReset s).result = 0 := rfl
@[simp] theorem applyReset_plState : (applyReset s).plState = .idle := rfl
@[simp] theorem applyReset_code : (applyReset s).code = .ok := rfl
@[simp] theorem applyReset_rej : (applyReset s).rej = false := rfl
@[simp] theorem applyReset_psel : (applyReset s).psel = .ks0 := rfl
@[simp] theorem applyReset_byteCnt : (applyReset s).byteCnt = 0 := rfl
@[simp] theorem applyReset_hdr : (applyReset s).hdr = Header.empty := rfl
@[simp] theorem applyReset_pk : (applyReset s).pk = Packer.fresh := rfl
@[simp] theorem applyReset_lpos : (applyReset s).lpos = 0 := rfl
@[simp] theorem applyReset_lseed : (applyReset s).lseed = Vector.replicate 16 0 := rfl
@[simp] theorem applyReset_faultedBy : (applyReset s).faultedBy = none := rfl
@[simp] theorem applyReset_pix : (applyReset s).pix = s.pix := rfl
@[simp] theorem applyReset_input : (applyReset s).input = s.input := rfl
@[simp] theorem applyReset_output : (applyReset s).output = s.output := rfl

@[simp] theorem applyReset_seed (k : KsId) : (applyReset s).seed k = SeedStage.empty := by cases k <;> rfl

@[simp] theorem applyReset_ks (k : KsId) : (applyReset s).ks k = Keystream.unseeded := by cases k <;> rfl

end

/-- Settles O59: the reset event has its one next state, and each element of it is read off. -/
theorem resetGivesEveryElementItsValue : Obligations.ResetGivesEveryElementItsValue := by
  intro s
  refine ⟨applyReset s, perform_reset s, ?_⟩
  simp [Header.empty, Packer.fresh, SeedStage.empty, Keystream.unseeded]

end Sys2Proof.Machine
end

section
/-! SUPPORT. The gate of a command (40_command.md R100 to R102) and NOP (R104), said once for all 19 commands, and the
statements about them. -/

namespace Sys2Proof.Machine

/-- What a command does once the gate lets it through. -/
def commandEffect (P : Config.Params) (i : Instr) : State → State :=
  match i with
  | .nop => id
  | .seedPush k b => fun s => succeed (s.setSeed k ((s.seed k).push b))
  | .seedClear k => fun s => succeed (s.setSeed k SeedStage.empty)
  | .ksSeed k => ksSeedEffect P k
  | .ksBit k => ksBitEffect P k
  | .ksByte k => ksByteEffect P k
  | .ksXor k b => ksXorEffect P k b
  | .hdrNew => fun s => succeed { s with hdr := Header.empty }
  | .hdrAdd b => fun s => succeed { s with hdr := hdrAdd b s.hdr }
  | .hdrSet v => hdrSetEffect v
  | .hdrByte j => fun s => succeed { s with result := hdrBuf s.hdr j.toNat }
  | .pkReset => fun s => succeed { s with pk := Packer.fresh }
  | .pkEncByte b => fun s => packerEffect .enc (needEnc s.occ) (pkEncByte b) s
  | .pkEncFlush => fun s => packerEffect .enc (needFlush s.occ) pkEncFlush s
  | .pkDecByte => fun s =>
    packerEffect .dec (needDec s.occ) (fun s => { (pkDecByte s).2 with result := (pkDecByte s).1 }) s
  | .plEncrypt v => plEncryptEffect P v
  | .plDecrypt => plDecryptEffect P
  | .plCancel => plCancelEffect
  | .plAck => acknowledge

/-- Only HDR_BYTE has a value restriction (30_encoding.md R83). -/
theorem wellFormed_eq_false (i : Instr) : i.wellFormed = false ↔ ∃ j : Byte, i = .hdrByte j ∧ ¬ j.toNat ≤ 4 := by
  cases i <;> simp [Instr.wellFormed]

/-- Every well-formed command goes through the gate to its effect (R100). -/
theorem exec_eq_submit (i : Instr) (s : State) (h : i.wellFormed = true) :
    exec i s = .next (submit i s (commandEffect Config.params i)) := by
  cases i with
  | hdrByte j => exact congrArg _ (if_pos (of_decide_eq_true h))
  | _ => rfl

/-- A command with no word acts as an illegal word (30_encoding.md R84; log entry 14). -/
theorem exec_eq_submitIllegal (i : Instr) (s : State) (h : i.wellFormed = false) :
    exec i s = .next (submitIllegal s) := by
  obtain ⟨j, rfl, hj⟩ := (wellFormed_eq_false i).mp h
  exact congrArg _ (if_neg hj)

/-- The gating table (R101). -/
theorem permitted_iff (i : Instr) (p : PlState) :
    permitted i p = true ↔
      p = .idle ∨ i = .nop ∨ i = .plCancel ∨ (i = .plAck ∧ (p = .done ∨ p = .failed ∨ p = .aborted)) := by
  cases p <;> simp [permitted, or_assoc]

/-- NOP is permitted in every pipeline state. -/
theorem permitted_nop (p : PlState) : permitted .nop p = true := (permitted_iff _ _).mpr (.inr (.inl rfl))

theorem plState_ne_idle_of_not_permitted {i : Instr} {p : PlState} (h : permitted i p = false) : p ≠ .idle := by
  rintro rfl
  exact absurd h (by simp [permitted_idle])

/-- A command the table does not permit is rejected (R101). -/
theorem submit_not_permitted (i : Instr) (s : State) (f : State → State) (hf : s.faultedBy = none)
    (hp : permitted i s.plState = false) : submit i s f = reject s := by
  simp [submit, (faulted_eq_false s).mpr hf, hp]

/-- An illegal word in an unfaulted state (R102). -/
theorem submitIllegal_unfaulted (s : State) (hf : s.faultedBy = none) :
    submitIllegal s = if s.plState = .idle then raiseError .illegalCommand s else reject s := by
  simp [submitIllegal, (faulted_eq_false s).mpr hf]

/-- A 32-bit write at offset 0x04 submits its word (R100). -/
theorem csrWrite_cmd (w : Word) (s : State) : csrWrite 0x04 32 w s = submitWord w s := rfl

theorem submitWord_illegal (w : Word) (s : State) (e : Illegal) (h : decode w = .error e) :
    submitWord w s = .next (submitIllegal s) := by
  simp [submitWord, h]

/-- Settles O7: the word reaches `submitIllegal`, which marks CODE in IDLE and REJ elsewhere. -/
theorem illegalWordOnlyMarks : Obligations.IllegalWordOnlyMarks := by
  intro s w e hf hw
  rw [csrWrite_cmd, submitWord_illegal w s e hw, submitIllegal_unfaulted s hf]
  rfl

/-- Settles O8: the table, and that a well-formed command is stopped at the gate; one with no word is rejected as an
illegal word, since what the table does not permit is not submitted in IDLE. -/
theorem commandsOutsideTheGateAreRejected : Obligations.CommandsOutsideTheGateAreRejected := by
  refine ⟨permitted_iff, fun i s hf hp => ?_⟩
  change exec i s = .next (reject s)
  cases hw : i.wellFormed with
  | true => rw [exec_eq_submit i s hw, submit_not_permitted i s _ hf hp]
  | false =>
    rw [exec_eq_submitIllegal i s hw, submitIllegal_unfaulted s hf, if_neg (plState_ne_idle_of_not_permitted hp)]

/-- NOP's effect is the identity and no state rejects it, so the gate gives the state back (R104). -/
theorem submit_nop (s : State) : submit .nop s id = s := by
  obtain ⟨-, h⟩ | ⟨-, -, h⟩ | ⟨-, hp, -⟩ := submit_cases .nop s id
  · exact h
  · exact h
  · exact absurd hp (by simp [permitted_nop])

/-- Settles O16. -/
theorem nopChangesNothing : Obligations.NopChangesNothing :=
  ⟨rfl, rfl, fun s => congrArg _ (submit_nop s)⟩

end Sys2Proof.Machine
end

section
/-! SUPPORT. The result conventions of the primitive commands (40_command.md R103), and the statement about them: each
effect is a success over a state that keeps what R103 fixes, or an error. -/

namespace Sys2Proof.Machine

/-- What a primitive command leaves as it was: PL_STATE, REJ, PSEL and BYTE_CNT, and RESULT unless it yields a byte. -/
structure PrimitiveFrame (yields : Bool) (s t : State) : Prop where
  result : yields = false → t.result = s.result
  plState : t.plState = s.plState
  rej : t.rej = s.rej
  psel : t.psel = s.psel
  byteCnt : t.byteCnt = s.byteCnt

/-- How a primitive command ends: CODE is OK or only CODE has changed, and the frame is kept. -/
def PrimitiveOutcome (yields : Bool) (s t : State) : Prop :=
  (t.code = .ok ∨ t = { s with code := t.code }) ∧ PrimitiveFrame yields s t

section
variable {yields : Bool} {s t : State}

/-- Success over a kept frame writes CODE OK. -/
theorem PrimitiveFrame.succeed (h : PrimitiveFrame yields s t) : PrimitiveOutcome yields s (succeed t) :=
  ⟨.inl rfl, h.result, h.plState, h.rej, h.psel, h.byteCnt⟩

/-- A command that yields a byte may write RESULT. -/
theorem PrimitiveFrame.withResult (h : PrimitiveFrame yields s t) (b : Byte) :
    PrimitiveFrame true s { t with result := b } :=
  ⟨nofun, h.plState, h.rej, h.psel, h.byteCnt⟩

end

section
variable (yields : Bool) (s : State)

theorem PrimitiveFrame.refl : PrimitiveFrame yields s s := ⟨fun _ => rfl, rfl, rfl, rfl, rfl⟩

/-- An error changes CODE alone. -/
theorem primitiveOutcome_raiseError (c : Code) : PrimitiveOutcome yields s (raiseError c s) :=
  ⟨.inr rfl, fun _ => rfl, rfl, rfl, rfl, rfl⟩

theorem primitiveFrame_setHdr (h : Header) : PrimitiveFrame yields s { s with hdr := h } :=
  ⟨fun _ => rfl, rfl, rfl, rfl, rfl⟩

theorem primitiveFrame_setPk (p : Packer) : PrimitiveFrame yields s { s with pk := p } :=
  ⟨fun _ => rfl, rfl, rfl, rfl, rfl⟩

theorem primitiveFrame_setSeed (k : KsId) (x : SeedStage) : PrimitiveFrame yields s (s.setSeed k x) := by
  constructor <;> simp

theorem primitiveFrame_setKs (k : KsId) (x : Keystream) : PrimitiveFrame yields s (s.setKs k x) := by
  constructor <;> simp

theorem primitiveFrame_withFlow (f : Flow) : PrimitiveFrame yields s (s.withFlow f) :=
  ⟨fun _ => rfl, rfl, rfl, rfl, rfl⟩

theorem primitiveFrame_ksNextByte (P : Config.Params) (k : KsId) : PrimitiveFrame yields s (ksNextByte P k s).2 := by
  rw [ksNextByte_frame]
  exact ⟨fun _ => rfl, rfl, rfl, rfl, rfl⟩

theorem primitiveFrame_construct (P : Config.Params) (k : KsId) : PrimitiveFrame yields s (construct P k s) := by
  rw [construct_frame]
  exact ⟨fun _ => rfl, rfl, rfl, rfl, rfl⟩

theorem primitiveOutcome_ksSeed (P : Config.Params) (k : KsId) : PrimitiveOutcome yields s (ksSeedEffect P k s) := by
  unfold ksSeedEffect
  split
  · exact (primitiveFrame_construct yields s P k).succeed
  · exact primitiveOutcome_raiseError yields s _

theorem primitiveOutcome_ksBit (P : Config.Params) (k : KsId) : PrimitiveOutcome true s (ksBitEffect P k s) := by
  unfold ksBitEffect
  split
  · exact primitiveOutcome_raiseError true s _
  · split
    · exact ((primitiveFrame_setKs true s k _).withResult _).succeed
    · exact primitiveOutcome_raiseError true s _

theorem primitiveOutcome_ksByte (P : Config.Params) (k : KsId) : PrimitiveOutcome true s (ksByteEffect P k s) := by
  unfold ksByteEffect
  split
  · exact ((primitiveFrame_ksNextByte true s P k).withResult _).succeed
  · exact primitiveOutcome_raiseError true s _

theorem primitiveOutcome_ksXor (P : Config.Params) (k : KsId) (b : Byte) :
    PrimitiveOutcome true s (ksXorEffect P k b s) := by
  unfold ksXorEffect
  split
  · exact ((primitiveFrame_ksNextByte true s P k).withResult _).succeed
  · exact primitiveOutcome_raiseError true s _

theorem primitiveOutcome_hdrSet (v : Byte) : PrimitiveOutcome yields s (hdrSetEffect v s) := by
  unfold hdrSetEffect
  split
  · exact primitiveOutcome_raiseError yields s _
  · exact (primitiveFrame_setHdr yields s _).succeed

end

/-- A packer command ends so when the packer function under it keeps the frame: both checks come first. -/
theorem primitiveOutcome_packer {yields : Bool} {s : State} {f : State → State} (d : PkMode) (n : Nat)
    (h : PrimitiveFrame yields s (f s)) : PrimitiveOutcome yields s (packerEffect d n f s) := by
  obtain ⟨-, he⟩ | ⟨-, -, he⟩ | ⟨-, -, he⟩ := packerEffect_cases d n f s <;> rw [he]
  · exact primitiveOutcome_raiseError yields s _
  · exact primitiveOutcome_raiseError yields s _
  · exact PrimitiveFrame.succeed ⟨h.result, h.plState, h.rej, h.psel, h.byteCnt⟩

/-- The effect of every primitive command ends as R103 has it. -/
theorem primitiveOutcome_commandEffect (P : Config.Params) (i : Instr) (s : State) (h : i.primitive = true) :
    PrimitiveOutcome i.yieldsByte s (commandEffect P i s) := by
  cases i with
  | seedPush k b => exact (primitiveFrame_setSeed _ s k _).succeed
  | seedClear k => exact (primitiveFrame_setSeed _ s k _).succeed
  | ksSeed k => exact primitiveOutcome_ksSeed _ s P k
  | ksBit k => exact primitiveOutcome_ksBit s P k
  | ksByte k => exact primitiveOutcome_ksByte s P k
  | ksXor k b => exact primitiveOutcome_ksXor s P k b
  | hdrNew => exact (primitiveFrame_setHdr _ s _).succeed
  | hdrAdd b => exact (primitiveFrame_setHdr _ s _).succeed
  | hdrSet v => exact primitiveOutcome_hdrSet _ s v
  | hdrByte j => exact ((PrimitiveFrame.refl true s).withResult _).succeed
  | pkReset => exact (primitiveFrame_setPk _ s _).succeed
  | pkEncByte b => exact primitiveOutcome_packer _ _ (primitiveFrame_withFlow _ s _)
  | pkEncFlush => exact primitiveOutcome_packer _ _ (primitiveFrame_withFlow _ s _)
  | pkDecByte => exact primitiveOutcome_packer _ _ ((primitiveFrame_withFlow true s _).withResult _)
  | nop => nomatch h
  | plEncrypt v => nomatch h
  | plDecrypt => nomatch h
  | plCancel => nomatch h
  | plAck => nomatch h

/-- Settles O15: in IDLE the gate runs the command's effect, which ends as R103 has it. -/
theorem primitiveCommandsKeepTheResultConventions : Obligations.PrimitiveCommandsKeepTheResultConventions := by
  intro i s hprim hwf hready
  obtain ⟨hcode, hframe⟩ := primitiveOutcome_commandEffect Config.params i s hprim
  refine ⟨commandEffect Config.params i s, ?_, hcode, hframe.result, hframe.plState, hframe.rej, hframe.psel,
    hframe.byteCnt⟩
  rw [exec_eq_submit i s hwf, submit_ready i s _ hready]

end Sys2Proof.Machine
end

section
/-! SUPPORT. The decoder on a word of format C (30_encoding.md R81, R86, R87): each field reads back what went into it. -/

namespace Sys2Proof

section
variable (opc : Byte) (k : BitVec 1) (imm : Byte)

@[simp] theorem fieldOpc_formatC : fieldOpc (formatC opc k imm) = opc := by
  simp (disch := decide) only [fieldOpc, formatC, BitVec.extractLsb'_append_eq_of_le]
  simp

@[simp] theorem fieldK_formatC : fieldK (formatC opc k imm) = k := by
  simp (disch := decide) only [fieldK, formatC, BitVec.extractLsb'_append_eq_of_le,
    BitVec.extractLsb'_append_eq_of_add_le]
  simp

@[simp] theorem fieldImm_formatC : fieldImm (formatC opc k imm) = imm := by
  simp (disch := decide) only [fieldImm, formatC, BitVec.extractLsb'_append_eq_of_add_le]
  simp

/-- A word of format C is legal as far as its reserved field goes, so the opcode map decides. -/
theorem decode_formatC : decode (formatC opc k imm) = decodeFields opc k imm := by
  simp [decode, Laws.RsvZero.fieldRsv_formatC]

/-- A byte joined to an opcode byte over zeros is the word of format C with K clear. -/
theorem opcodeWord_or_immediate : (opc ++ (0 : BitVec 24)) ||| imm.setWidth 32 = formatC opc 0 imm := by
  refine BitVec.eq_of_getLsbD_eq fun i hi => ?_
  simp only [formatC, BitVec.getLsbD_or, BitVec.getLsbD_append, BitVec.getLsbD_setWidth]
  grind

end

/-- The word of HDR_SET v (R83, R115). -/
theorem decode_hdrSet (v : Byte) : decode (0x12000000 ||| v.setWidth 32) = .ok (.hdrSet v) :=
  (congrArg decode (opcodeWord_or_immediate 0x12 v)).trans (decode_formatC _ _ _)

/-- The word 0x130000jj is HDR_BYTE j or illegal, as j is an index of the header or not (R84, R116). -/
theorem decode_hdrByte (j : Byte) :
    decode (0x13000000 ||| j.setWidth 32) = if j.toNat ≤ 4 then .ok (.hdrByte j) else .error .headerIndex :=
  (congrArg decode (opcodeWord_or_immediate 0x13 j)).trans (decode_formatC _ _ _)

end Sys2Proof
end

section
/-! SUPPORT. The header parser (41_header.md R111), said once for each of its cases, and the statements of the header
family. -/

namespace Sys2Proof.Machine

/-- MAX_VERSION is 1, compared unsigned (R7, R111). -/
theorem maxVersion_lt_iff (v : Byte) : Config.maxVersion < v ↔ 1 < v.toNat := Iff.rfl

/-! The three cases of HdrAdd -/

section
variable (b : Byte) {h : Header}

/-- An unsupported or complete header is left alone. -/
theorem hdrAdd_closed (hc : h.unsup = true ∨ h.complete = true) : hdrAdd b h = h := by
  simp [hdrAdd, hc]

/-- The first byte is the version. -/
theorem hdrAdd_first (hc : ¬ (h.unsup = true ∨ h.complete = true)) (h0 : h.count = 0) :
    hdrAdd b h = { h with version := b, count := 1, unsup := decide (1 < b.toNat) } := by
  simp [hdrAdd, hc, h0, maxVersion_lt_iff]

/-- A later byte is shifted into the size, and the fifth completes the header. -/
theorem hdrAdd_later (hc : ¬ (h.unsup = true ∨ h.complete = true)) (h0 : h.count ≠ 0) :
    hdrAdd b h = { h with
      size := shiftSize h.size b
      count := h.count + 1
      complete := decide (h.count + 1 = 5)
      hsize := if h.count + 1 = 5 then 5 else h.hsize } := by
  have hcomplete : h.complete = false := by simpa using fun hx => hc (.inr hx)
  rw [hdrAdd, if_neg (by simpa using hc), if_neg h0]
  split <;> rename_i h5
  · rw [decide_eq_true h5]
  · rw [decide_eq_false h5, hcomplete]

end

/-! Not before the fifth byte -/

/-- A byte fed to an incomplete header of at most three bytes does not complete it and counts at most once. -/
theorem hdrAdd_incomplete (b : Byte) (h : Header) (hi : h.complete = false) (hn : h.count.toNat < 4) :
    (hdrAdd b h).complete = false ∧ (hdrAdd b h).count.toNat ≤ h.count.toNat + 1 := by
  by_cases hc : h.unsup = true ∨ h.complete = true
  · rw [hdrAdd_closed b hc]
    exact ⟨hi, Nat.le_succ _⟩
  by_cases h0 : h.count = 0
  · rw [hdrAdd_first b hc h0]
    exact ⟨hi, by simp⟩
  · have hcount : (h.count + 1).toNat = h.count.toNat + 1 := by bv_omega
    have h5 : h.count + 1 ≠ 5 := by bv_omega
    rw [hdrAdd_later b hc h0]
    exact ⟨decide_eq_false h5, hcount.le⟩

/-- While fewer than five bytes are counted and fed, the header stays incomplete, whatever the bytes are. -/
theorem addBytes_incomplete (bs : List Byte) (h : Header) (hi : h.complete = false)
    (hn : h.count.toNat + bs.length < 5) : (addBytes bs h).complete = false := by
  induction bs generalizing h with
  | nil => exact hi
  | cons b rest ih =>
    rw [List.length_cons] at hn
    obtain ⟨hi', hcount⟩ := hdrAdd_incomplete b h hi (by omega)
    exact ih (hdrAdd b h) hi' (by omega)

/-! The round trip -/

/-- Shifting a byte in drops the top byte of the size and puts the new one below the rest. -/
theorem shiftSize_eq_append (n : Word) (b : Byte) : shiftSize n b = n.setWidth 24 ++ b := by
  refine BitVec.eq_of_getLsbD_eq fun i hi => ?_
  simp only [shiftSize, zext32, BitVec.getLsbD_or, BitVec.getLsbD_shiftLeft, BitVec.getLsbD_append,
    BitVec.getLsbD_setWidth]
  grind

/-- Four bytes shifted in push the initial size out of the 32 bits (R110). -/
theorem shiftSize_four (n : Word) (b1 b2 b3 b4 : Byte) :
    shiftSize (shiftSize (shiftSize (shiftSize n b1) b2) b3) b4 = b1 ++ b2 ++ b3 ++ b4 := by
  refine BitVec.eq_of_getLsbD_eq fun i hi => ?_
  simp only [shiftSize_eq_append, BitVec.getLsbD_append, BitVec.getLsbD_setWidth]
  grind

/-- The four size bytes of the serialised header, joined, are the size (R112). -/
theorem size_eq_bytes (n : Word) :
    n.extractLsb' 24 8 ++ n.extractLsb' 16 8 ++ n.extractLsb' 8 8 ++ n.extractLsb' 0 8 = n := by
  simp only [BitVec.extractLsb'_append_extractLsb'_eq_extractLsb', BitVec.extractLsb'_eq_self]

/-- A fresh parser fed a supported version and four more bytes holds the complete header of the big-endian size. -/
theorem addBytes_five (v b1 b2 b3 b4 : Byte) (hv : v.toNat ≤ 1) :
    addBytes [v, b1, b2, b3, b4] Header.empty = completeHeader v (b1 ++ b2 ++ b3 ++ b4) := by
  rw [← shiftSize_four 0]
  simp only [addBytes]
  rw [hdrAdd_first v (by simp [Header.empty]) rfl, decide_eq_false (by omega : ¬ 1 < v.toNat)]
  -- The counts 1 to 4 are now literals, so the four later bytes compute.
  rfl

/-- Serialising a header of a supported version and parsing it again completes a header of that version and size. -/
theorem addBytes_headerBytes (h : Header) (hv : h.version.toNat ≤ 1) :
    addBytes (headerBytes h) Header.empty = completeHeader h.version h.size :=
  (addBytes_five _ _ _ _ _ hv).trans (congrArg _ (size_eq_bytes h.size))

/-- Settles O31: what five bytes make is read off the complete header, and fewer than five do not complete one. -/
theorem headerRoundTripTakesFiveBytes : Obligations.HeaderRoundTripTakesFiveBytes := by
  intro h _ hv
  rw [addBytes_headerBytes h hv]
  refine ⟨rfl, rfl, rfl, rfl, fun n hn => addBytes_incomplete _ _ rfl ?_⟩
  calc (0 : Nat) + ((headerBytes h).take n).length ≤ 0 + n := Nat.add_le_add_left (List.length_take_le n _) 0
    _ < 5 := by omega

/-! The header commands -/

/-- In IDLE every well-formed command has its effect (R100, R101). -/
theorem exec_ready (i : Instr) (s : State) (hwf : i.wellFormed = true) (hs : s.Ready) :
    exec i s = .next (commandEffect Config.params i s) := by
  rw [exec_eq_submit i s hwf, submit_ready i s _ hs]

/-- HDR_SET's effect, the version read as a number (R115). -/
theorem hdrSetEffect_eq (v : Byte) (s : State) :
    hdrSetEffect v s = if 1 < v.toNat then raiseError .unsupportedHeaderVersion s
      else succeed { s with hdr := completeHeader v s.size } := rfl

/-- HDR_BYTE j puts byte j of the serialised header in RESULT (R116). -/
theorem exec_hdrByte_ready (j : Byte) (s : State) (hj : j.toNat ≤ 4) (hs : s.Ready) :
    exec (.hdrByte j) s = .next (succeed { s with result := hdrBuf s.hdr j.toNat }) :=
  exec_ready _ s (decide_eq_true hj) hs

/-- A header the parser has given up on holds its version byte alone (R45, R116). -/
theorem Header.Consistent.size_of_unsup {h : Header} (hc : h.Consistent) (hu : h.unsup = true) : h.size = 0 := by
  obtain ⟨-, hunsup, -, hsize⟩ := hc
  obtain ⟨-, hcount⟩ := hunsup hu
  exact hsize (by simp [hcount])

/-- Settles O28, by the three cases of the parser. -/
theorem hdrAddFeedsOneByte : Obligations.HdrAddFeedsOneByte := by
  intro b s hs
  rw [exec_ready (.hdrAdd b) s rfl hs]
  change Host.Outcome.next { s with hdr := hdrAdd b s.hdr, code := .ok } = _
  by_cases hc : s.hdr.unsup = true ∨ s.hdr.complete = true
  · rw [hdrAdd_closed b hc, if_pos hc]
  · rw [if_neg hc]
    by_cases h0 : s.hdr.count = 0
    · rw [hdrAdd_first b hc h0, if_pos h0]
    · rw [hdrAdd_later b hc h0, if_neg h0]
      rfl

/-- Settles O29. -/
theorem hdrSetBuildsACompleteHeader : Obligations.HdrSetBuildsACompleteHeader := by
  refine fun v => ⟨decode_hdrSet v, fun s hs => ?_⟩
  rw [exec_ready (.hdrSet v) s rfl hs]
  exact congrArg _ (hdrSetEffect_eq v s)

/-- Settles O30. -/
theorem hdrByteReadsTheSerialisedHeader : Obligations.HdrByteReadsTheSerialisedHeader := by
  refine ⟨fun s hs => ?_, fun j hj => ?_, fun j hj => ?_, fun h hc hu => hc.size_of_unsup hu⟩
  · exact ⟨exec_hdrByte_ready 0 s (by decide) hs, exec_hdrByte_ready 1 s (by decide) hs,
      exec_hdrByte_ready 2 s (by decide) hs, exec_hdrByte_ready 3 s (by decide) hs,
      exec_hdrByte_ready 4 s (by decide) hs⟩
  · rw [decode_hdrByte, if_pos hj]
  · rw [decode_hdrByte, if_neg (by omega)]
    rfl

end Sys2Proof.Machine
end

section
/-! SUPPORT. The seed staging buffers (42_keystream.md R132, R133): what a push and a clear make of a buffer, what every
transition can do to one, and the statements about SEED_PUSH and SEED_CLEAR. -/

namespace Sys2Proof.Machine

/-! The words of the two commands -/

/-- An opcode byte over zeros, joined to the bit of K and an immediate byte, is the word of format C (R81, R87). -/
theorem opcodeWord_or_ksBit_or_immediate (opc : Byte) (k : KsId) (imm : Byte) :
    (opc ++ (0 : BitVec 24)) ||| (if k = .ks1 then 0x100 else 0) ||| imm.setWidth 32 =
      formatC opc (bitOfKsId k) imm := by
  cases k with
  | ks0 => exact (congrArg (· ||| _) BitVec.or_zero).trans (opcodeWord_or_immediate opc imm)
  | ks1 =>
    have hbit : (0x100 : Word) = (0 : BitVec 23) ++ (1 : BitVec 1) ++ (0 : BitVec 8) := rfl
    refine BitVec.eq_of_getLsbD_eq fun i hi => ?_
    simp only [formatC, bitOfKsId, if_true, hbit, BitVec.getLsbD_or, BitVec.getLsbD_append, BitVec.getLsbD_setWidth]
    grind

@[simp] theorem ksIdOfBit_bitOfKsId (k : KsId) : ksIdOfBit (bitOfKsId k) = k := by cases k <;> rfl

/-- The word of SEED_PUSH k, b (R83, R132). -/
theorem decode_seedPush (k : KsId) (b : Byte) :
    decode (0x01000000 ||| (if k = .ks1 then 0x100 else 0) ||| b.setWidth 32) = .ok (.seedPush k b) := by
  have hword := opcodeWord_or_ksBit_or_immediate 0x01 k b
  have hfields : decodeFields 0x01 (bitOfKsId k) b = .ok (.seedPush k b) := by simp [decodeFields]
  exact (congrArg decode hword).trans ((decode_formatC _ _ _).trans hfields)

/-- The word of SEED_CLEAR k (R83, R133). -/
theorem decode_seedClear (k : KsId) :
    decode (0x02000000 ||| (if k = .ks1 then 0x100 else 0)) = .ok (.seedClear k) := by
  cases k <;> rfl

/-! One buffer -/

/-- Push counts a byte while fewer than 16 are staged, and then shows 17 (R132). -/
theorem push_cnt (x : SeedStage) (b : Byte) :
    (x.push b).cnt = if x.cnt.toNat < 16 then x.cnt + 1 else 17 := by
  unfold SeedStage.push
  split <;> rfl

/-- Push stores its byte at the count, which names no byte of the buffer from 16 on (R132). -/
theorem push_getElem (x : SeedStage) (b : Byte) (j : Fin 16) :
    (x.push b).buf[j] = if x.cnt.toNat = j.val then b else x.buf[j] := by
  unfold SeedStage.push
  split
  · exact Vector.getElem_set (hi := by assumption) j.isLt
  · next hfull => exact (if_neg (by omega)).symm

theorem empty_getElem (j : Fin 16) : SeedStage.empty.buf[j] = 0 := Vector.getElem_replicate _

@[simp] theorem succeed_setSeed_seed (s : State) (k : KsId) (x : SeedStage) :
    (succeed (s.setSeed k x)).seed k = x := setSeed_seed s k x

/-- A success over a replaced buffer writes the two buffers and CODE alone. -/
theorem succeed_setSeed_frame (s : State) (k : KsId) (x : SeedStage) :
    succeed (s.setSeed k x) = { s with
      seed0 := (s.setSeed k x).seed0, seed1 := (s.setSeed k x).seed1, code := .ok } := by
  cases k <;> rfl

/-- SEED_PUSH k, b pushes b on buffer k (R132). -/
theorem exec_seedPush_ready (k : KsId) (b : Byte) (s : State) (hs : s.Ready) :
    exec (.seedPush k b) s = .next (succeed (s.setSeed k ((s.seed k).push b))) :=
  exec_ready _ s rfl hs

/-- SEED_CLEAR k puts the empty buffer in place of buffer k (R133). -/
theorem exec_seedClear_ready (k : KsId) (s : State) (hs : s.Ready) :
    exec (.seedClear k) s = .next (succeed (s.setSeed k SeedStage.empty)) :=
  exec_ready _ s rfl hs

/-- Settles O18: in IDLE the command's effect replaces the buffer it names by the empty one. -/
theorem seedClearEmptiesTheBuffer : Obligations.SeedClearEmptiesTheBuffer := by
  refine fun k => ⟨decode_seedClear k, fun s hs => ⟨_, exec_seedClear_ready k s hs, ?_⟩⟩
  refine ⟨?_, fun j => ?_, fun k' hk => setSeed_seed_other s k k' _ hk, succeed_setSeed_frame s k _⟩
  · rw [succeed_setSeed_seed]
    rfl
  · rw [succeed_setSeed_seed, empty_getElem]

/-! What leaves the buffers alone -/

section
variable (P : Config.Params) (k : KsId) (j : KsId) (b : Byte) (s : State)

@[simp] theorem ksNextByte_seed : (ksNextByte P k s).2.seed j = s.seed j := by rw [ksNextByte_frame]; rfl

@[simp] theorem construct_seed : (construct P k s).seed j = s.seed j := by rw [construct_frame]; rfl

@[simp] theorem maskByte_seed : (maskByte P k b s).2.seed j = s.seed j := by rw [maskByte_frame]; rfl

@[simp] theorem constructWhenMasking_seed : (constructWhenMasking P k s).seed j = s.seed j := by
  unfold constructWhenMasking
  split
  · exact construct_seed P k j s
  · rfl

@[simp] theorem constructPayloadKs_seed (v : Byte) : (constructPayloadKs P v s).seed j = s.seed j := by
  unfold constructPayloadKs
  split
  · exact constructWhenMasking_seed P .ks1 j s
  · rfl

@[simp] theorem raiseFault_seed (r : CsrFault) : (raiseFault r s).seed j = s.seed j := by
  obtain ⟨-, h⟩ | ⟨-, h⟩ := raiseFault_cases r s <;> rw [h]
  rfl

@[simp] theorem submitIllegal_seed : (submitIllegal s).seed j = s.seed j := by
  obtain ⟨-, h⟩ | ⟨-, -, h⟩ | ⟨-, -, h⟩ := submitIllegal_cases s <;> rw [h] <;> rfl

@[simp] theorem handOver_seed (v : Word) : (handOver v s).seed j = s.seed j := by
  unfold handOver
  split <;> rfl

@[simp] theorem writeCsr_seed (off : Nat) (v : Word) : (writeCsr s off v).seed j = s.seed j := by
  unfold writeCsr writeRegister
  repeat' split
  all_goals rfl

end

/-! The commands -/

/-- What a move by m can make of the seed buffer k when it holds x: only a push, a clear and a reset write it (R132,
R133, R250). -/
inductive StageMove (k : KsId) (m : Mover) (x : SeedStage) : SeedStage → Prop where
  | kept : StageMove k m x x
  | pushed (b : Byte) (hm : m = .command (.seedPush k b)) : StageMove k m x (x.push b)
  | cleared (hm : m = .command (.seedClear k)) : StageMove k m x SeedStage.empty
  | reset (hm : m = .reset) : StageMove k m x SeedStage.empty

theorem StageMove.of_eq {k : KsId} {m : Mover} {x y : SeedStage} (h : y = x) : StageMove k m x y := h ▸ .kept

/-- A replaced buffer is the one named; the other is kept. -/
theorem setSeed_stageMove {k j : KsId} {m : Mover} {s : State} {x : SeedStage}
    (h : j = k → StageMove j m (s.seed j) x) : StageMove j m (s.seed j) ((s.setSeed k x).seed j) := by
  by_cases hj : j = k
  · subst hj
    rw [setSeed_seed]
    exact h rfl
  · exact .of_eq (setSeed_seed_other s k j x hj)

section
variable (P : Config.Params) (j : KsId) (s : State)

theorem packerEffect_seed (d : PkMode) (n : Nat) (f : State → State) (h : (f s).seed j = s.seed j) :
    (packerEffect d n f s).seed j = s.seed j := by
  obtain ⟨-, he⟩ | ⟨-, -, he⟩ | ⟨-, -, he⟩ := packerEffect_cases d n f s <;> rw [he]
  · rfl
  · rfl
  · exact h

theorem ksSeedEffect_seed (k : KsId) : (ksSeedEffect P k s).seed j = s.seed j := by
  unfold ksSeedEffect
  split
  · exact construct_seed P k j s
  · rfl

theorem ksBitEffect_seed (k : KsId) : (ksBitEffect P k s).seed j = s.seed j := by
  unfold ksBitEffect
  split
  · rfl
  split
  · exact setKs_seed s k j _
  · rfl

theorem ksByteEffect_seed (k : KsId) : (ksByteEffect P k s).seed j = s.seed j := by
  unfold ksByteEffect
  split
  · exact ksNextByte_seed P k j s
  · rfl

theorem ksXorEffect_seed (k : KsId) (b : Byte) : (ksXorEffect P k b s).seed j = s.seed j := by
  unfold ksXorEffect
  split
  · exact ksNextByte_seed P k j s
  · rfl

theorem hdrSetEffect_seed (v : Byte) : (hdrSetEffect v s).seed j = s.seed j := by
  unfold hdrSetEffect
  split <;> rfl

theorem plEncryptEffect_seed (v : Byte) : (plEncryptEffect P v s).seed j = s.seed j := by
  unfold plEncryptEffect
  split
  · rfl
  · exact (constructPayloadKs_seed ..).trans (constructWhenMasking_seed ..)

theorem plDecryptEffect_seed : (plDecryptEffect P s).seed j = s.seed j := by
  unfold plDecryptEffect
  split
  · rfl
  · exact constructWhenMasking_seed ..

theorem plCancelEffect_seed : (plCancelEffect s).seed j = s.seed j := by
  unfold plCancelEffect
  split <;> rfl

/-- The effect of every command on a seed buffer. -/
theorem commandEffect_stageMove (i : Instr) :
    StageMove j (.command i) (s.seed j) ((commandEffect P i s).seed j) := by
  cases i with
  | seedPush k b => exact setSeed_stageMove fun h => h ▸ .pushed b rfl
  | seedClear k => exact setSeed_stageMove fun h => h ▸ .cleared rfl
  | nop => exact .kept
  | ksSeed k => exact .of_eq (ksSeedEffect_seed P j s k)
  | ksBit k => exact .of_eq (ksBitEffect_seed P j s k)
  | ksByte k => exact .of_eq (ksByteEffect_seed P j s k)
  | ksXor k b => exact .of_eq (ksXorEffect_seed P j s k b)
  | hdrNew => exact .of_eq rfl
  | hdrAdd b => exact .of_eq rfl
  | hdrSet v => exact .of_eq (hdrSetEffect_seed j s v)
  | hdrByte n => exact .of_eq rfl
  | pkReset => exact .of_eq rfl
  | pkEncByte b => exact .of_eq (packerEffect_seed j s _ _ _ rfl)
  | pkEncFlush => exact .of_eq (packerEffect_seed j s _ _ _ rfl)
  | pkDecByte => exact .of_eq (packerEffect_seed j s _ _ _ rfl)
  | plEncrypt v => exact .of_eq (plEncryptEffect_seed P j s v)
  | plDecrypt => exact .of_eq (plDecryptEffect_seed P j s)
  | plCancel => exact .of_eq (plCancelEffect_seed j s)
  | plAck => exact .of_eq rfl

end

/-! The transitions -/

/-- Every state a transition can give holds the seed buffer j of s. -/
def KeepsSeed (j : KsId) (s : State) (r : Result) : Prop := ∀ t, r = .next t → t.seed j = s.seed j

section
variable {j : KsId} {s t : State}

theorem keepsSeed_next (h : t.seed j = s.seed j) : KeepsSeed j s (.next t) := by
  rintro _ ⟨⟩
  exact h

theorem keepsSeed_fault (f : Fault) : KeepsSeed j s (.fault f) := by rintro _ ⟨⟩

end

section
variable (P : Config.Params) (j : KsId) (s : State)

theorem packMasked_seed (k : KsId) (b : Byte) : (packMasked P k b s).seed j = s.seed j := maskByte_seed P k j b s

theorem unpackUnmasked_seed (k : KsId) : (unpackUnmasked P k s).2.seed j = s.seed j := maskByte_seed ..

theorem checkHeader_seed : (checkHeader P s).seed j = s.seed j := by
  unfold checkHeader
  repeat' split
  all_goals rfl

theorem enterPayload_seed : (enterPayload s).seed j = s.seed j := by
  unfold enterPayload
  split <;> rfl

theorem selectPayloadKs_seed : (selectPayloadKs P s).seed j = s.seed j := by
  unfold selectPayloadKs
  split <;> split
  · rfl
  · exact (enterPayload_seed ..).trans (constructWhenMasking_seed ..)
  · rfl
  · exact enterPayload_seed ..

theorem finishPayload_seed : (finishPayload s).seed j = s.seed j := by
  unfold finishPayload
  split <;> rfl

theorem stepEncHdr_keepsSeed : KeepsSeed j s (stepEncHdr P s) := by
  unfold stepEncHdr
  split
  · exact keepsSeed_fault _
  split
  · exact keepsSeed_next (packMasked_seed P j s _ _)
  · exact keepsSeed_fault _

theorem stepEncPay_keepsSeed : KeepsSeed j s (stepEncPay P s) := by
  unfold stepEncPay
  split
  · exact keepsSeed_fault _
  split
  · exact keepsSeed_next (packMasked_seed P j s _ _)
  · exact keepsSeed_fault _

theorem stepEncFlush_keepsSeed : KeepsSeed j s (stepEncFlush s) := by
  unfold stepEncFlush
  split
  · exact keepsSeed_next rfl
  · exact keepsSeed_fault _

theorem stepDecHdr_keepsSeed : KeepsSeed j s (stepDecHdr P s) := by
  unfold stepDecHdr
  split
  · exact keepsSeed_next ((checkHeader_seed ..).trans (unpackUnmasked_seed P j s _))
  · exact keepsSeed_next rfl

theorem stepDecAlloc_keepsSeed : KeepsSeed j s (stepDecAlloc P s) := by
  unfold stepDecAlloc
  refine keepsSeed_next ?_
  split
  · rfl
  split
  · exact selectPayloadKs_seed ..
  · rfl

theorem stepDecPay_keepsSeed : KeepsSeed j s (stepDecPay P s) := by
  unfold stepDecPay
  split
  · split
    · exact keepsSeed_next ((finishPayload_seed ..).trans (unpackUnmasked_seed P j s _))
    · exact keepsSeed_fault _
  · exact keepsSeed_fault _

/-- The sequencer never writes a seed buffer. -/
theorem sequencerStep_keepsSeed : KeepsSeed j s (sequencerStep P s) := by
  unfold sequencerStep
  split
  · exact keepsSeed_next rfl
  split
  · exact keepsSeed_next rfl
  · exact stepEncHdr_keepsSeed P j s
  · exact stepEncPay_keepsSeed P j s
  · exact stepEncFlush_keepsSeed j s
  · exact stepDecHdr_keepsSeed P j s
  · exact stepDecAlloc_keepsSeed P j s
  · exact stepDecPay_keepsSeed P j s
  · exact keepsSeed_next rfl
  · exact keepsSeed_next rfl
  · exact keepsSeed_next rfl

/-- The host's access to its own memories keeps a buffer that its effect keeps. -/
theorem ownMemory_keepsSeed {f : State → State} {t : State} (h : ownMemory s f = .next t)
    (hf : (f s).seed j = s.seed j) : t.seed j = s.seed j := by
  obtain ⟨-, he⟩ | ⟨-, -, he⟩ | ⟨-, -, he⟩ := ownMemory_cases s f <;> rw [he] at h <;> cases h
  · rfl
  · exact hf

theorem csrRead_keepsSeed (off bits : Nat) : KeepsSeed j s (csrRead off bits s) := by
  unfold csrRead
  split
  · exact keepsSeed_next (raiseFault_seed ..)
  · exact keepsSeed_next (handOver_seed ..)

end

/-- Only a full-width access raises no fault (R60). -/
theorem bits_of_accessFault_none {off bits : Nat} (h : accessFault off bits = none) : bits = 32 := by
  by_contra hb
  simp [accessFault, hb] at h

section
variable {j : KsId} {s t : State}

/-- What a command can do to a seed buffer, gate included. -/
theorem exec_stageMove {i : Instr} (h : exec i s = .next t) : StageMove j (.command i) (s.seed j) (t.seed j) := by
  cases hw : i.wellFormed with
  | false =>
    rw [exec_eq_submitIllegal i s hw] at h
    cases h
    exact .of_eq (submitIllegal_seed j s)
  | true =>
    rw [exec_eq_submit i s hw] at h
    cases h
    obtain ⟨-, he⟩ | ⟨-, -, he⟩ | ⟨-, -, he⟩ := submit_cases i s (commandEffect Config.params i) <;> rw [he]
    · exact .kept
    · exact commandEffect_stageMove Config.params j s i
    · exact .of_eq rfl

/-- The mover of a CMD write is the command its word decodes to (R100). -/
theorem submitWord_stageMove {w : Word} (h : submitWord w s = .next t) :
    StageMove j (Event.csrWrite 0x04 32 w).mover (s.seed j) (t.seed j) := by
  unfold submitWord at h
  cases hw : decode w with
  | ok i =>
    have hm : (Event.csrWrite 0x04 32 w).mover = .command i := by simp [Event.mover, hw]
    rw [hw] at h
    rw [hm]
    exact exec_stageMove h
  | error e =>
    rw [hw] at h
    cases h
    exact .of_eq (submitIllegal_seed j s)

theorem csrWrite_stageMove {off bits : Nat} {v : Word} (h : csrWrite off bits v s = .next t) :
    StageMove j (Event.csrWrite off bits v).mover (s.seed j) (t.seed j) := by
  unfold csrWrite at h
  split at h
  · cases h
    exact .of_eq (raiseFault_seed ..)
  · next hacc =>
    split at h
    · next hoff =>
      rw [hoff, bits_of_accessFault_none hacc]
      exact submitWord_stageMove h
    · cases h
      exact .of_eq (writeCsr_seed ..)

/-- What an event can do to a seed buffer. -/
theorem perform_stageMove {e : Event} (h : perform e s = .next t) : StageMove j e.mover (s.seed j) (t.seed j) := by
  cases e with
  | csrWrite off bits v => exact csrWrite_stageMove h
  | csrRead off bits => exact .of_eq (csrRead_keepsSeed j s off bits t h)
  | pixWrite p v =>
    exact .of_eq (ownMemory_keepsSeed j s (f := fun s => { s with pix := s.pix.writePixel p v }) h rfl)
  | pixRead p => exact .of_eq (ownMemory_keepsSeed j s h (handOver_seed ..))
  | inWrite i b =>
    exact .of_eq (ownMemory_keepsSeed j s (f := fun s => { s with input := s.input.write i b }) h rfl)
  | inRead i => exact .of_eq (ownMemory_keepsSeed j s h (handOver_seed ..))
  | outWrite i b =>
    exact .of_eq (ownMemory_keepsSeed j s (f := fun s => { s with output := s.output.write i b }) h rfl)
  | outRead i => exact .of_eq (ownMemory_keepsSeed j s h (handOver_seed ..))
  | answerAlloc grant =>
    cases h
    exact .of_eq rfl
  | sequencer => exact .of_eq (sequencerStep_keepsSeed Config.params j s t h)
  | reset =>
    cases h
    rw [applyReset_seed]
    exact .reset rfl

/-- What a step can do to a seed buffer, by who moves. -/
theorem step_stageMove (h : step s = .next t) : StageMove j s.mover (s.seed j) (t.seed j) := by
  cases hs : s.schedule with
  | nil =>
    rw [step_idle_schedule s hs] at h
    exact .of_eq (sequencerStep_keepsSeed Config.params j s t h)
  | cons e rest =>
    rw [step_event s e rest hs] at h
    have hm : s.mover = e.mover := by simp [State.mover, hs]
    have hmove := perform_stageMove (j := j) h
    rw [hm]
    exact hmove

end

/-! SEED_PUSH -/

/-- A count of 17 is left by a clear or a reset only: a push keeps it (R132). -/
theorem StageMove.leaves_seventeen {k : KsId} {m : Mover} {x y : SeedStage} (h : StageMove k m x y)
    (hx : x.cnt = 17) (hy : y.cnt ≠ 17) : m = .command (.seedClear k) ∨ m = .reset := by
  cases h with
  | kept => exact absurd hx hy
  | pushed b hm => exact absurd (by rw [push_cnt, hx]; rfl) hy
  | cleared hm => exact .inl hm
  | reset hm => exact .inr hm

/-- Settles O17: a step moves the buffer as `StageMove` allows, and in IDLE the command's effect is one push. -/
theorem seedPushStagesOneByte : Obligations.SeedPushStagesOneByte := by
  refine ⟨fun k s t hstep hs ht => (step_stageMove hstep).leaves_seventeen hs ht, fun k b => ?_⟩
  refine ⟨decode_seedPush k b, fun s hs => ⟨_, exec_seedPush_ready k b s hs, ?_⟩⟩
  refine ⟨?_, fun j => ?_, fun k' hk => setSeed_seed_other s k k' _ hk, succeed_setSeed_frame s k _⟩
  · rw [succeed_setSeed_seed, push_cnt]
  · rw [succeed_setSeed_seed, push_getElem]

end Sys2Proof.Machine
end

section
/-! SUPPORT. The range of the shift registers under a well-formed tap table (42_keystream.md R137, R146), and the
statement about it: construction puts every register in its range and a tick keeps it there. -/

namespace Sys2Proof.Machine

theorem wid_pos (i : Fin 5) : 0 < Config.wid i := by
  fin_cases i <;> decide

theorem wid_le_32 (i : Fin 5) : Config.wid i ≤ 32 := by
  fin_cases i <;> decide

/-! One register -/

section
variable {r t : Word} {w : Nat}

/-- Clocking with bit 0 clear halves the register, which is even and so at least 2. -/
theorem tickRegister_even_inRange (hbit : r.getLsbD 0 = false) (hr : 1 ≤ r.toNat) (hlt : r.toNat < 2 ^ w) :
    1 ≤ (tickRegister r t).toNat ∧ (tickRegister r t).toNat < 2 ^ w := by
  have heven : r.toNat % 2 = 0 := by simpa [BitVec.getLsbD, Nat.testBit_zero] using hbit
  have hhalf : (tickRegister r t).toNat = r.toNat / 2 := by
    simp [tickRegister, -BitVec.getLsbD_eq_getElem, hbit, Nat.shiftRight_eq_div_pow]
  omega

/-- Clocking with bit 0 set XORs the mask, whose bit w-1 the shifted register does not have. -/
theorem tickRegister_odd_inRange (hbit : r.getLsbD 0 = true) (hw : 0 < w) (hlt : r.toNat < 2 ^ w)
    (htap : 2 ^ (w - 1) ≤ t.toNat) (htlt : t.toNat < 2 ^ w) :
    1 ≤ (tickRegister r t).toNat ∧ (tickRegister r t).toNat < 2 ^ w := by
  have hxor : (tickRegister r t).toNat = r.toNat / 2 ^^^ t.toNat := by
    simp [tickRegister, hbit, Nat.shiftRight_eq_div_pow]
  have hpow : 2 ^ w = 2 * 2 ^ (w - 1) := (mul_pow_sub_one hw.ne' 2).symm
  have hne : r.toNat / 2 ≠ t.toNat := by omega
  rw [hxor]
  exact ⟨Nat.one_le_iff_ne_zero.mpr (mt Nat.xor_eq_zero_iff.mp hne), Nat.xor_lt_two_pow (by omega) htlt⟩

end

/-! The five registers -/

/-- A tick keeps every register in its range; the masks do not change (R138, R146). -/
theorem tick_inRange (x : Keystream) (h : x.InRange) : x.tick.InRange := by
  intro i
  obtain ⟨⟨hr, hlt⟩, htap, htlt⟩ := h i
  refine ⟨?_, htap, htlt⟩
  rw [tick_lfsr]
  cases hbit : x.lfsr[i].getLsbD 0 with
  | false => exact tickRegister_even_inRange hbit hr hlt
  | true => exact tickRegister_odd_inRange hbit (wid_pos i) hlt htap htlt

theorem iterate_tick_inRange (n : Nat) (x : Keystream) (h : x.InRange) : (Keystream.tick^[n] x).InRange := by
  induction n generalizing x with
  | zero => exact h
  | succ n ih => exact ih x.tick (tick_inRange x h)

/-- The initial register is the slice's value, or 1 where that is 0 (R135). -/
theorem initialRegister_inRange (sl : Config.Slice) (i : Fin 5) :
    1 ≤ (initialRegister sl i).toNat ∧ (initialRegister sl i).toNat < 2 ^ Config.wid i := by
  unfold initialRegister
  split
  · next => exact ⟨le_rfl, Nat.one_lt_two_pow (wid_pos i).ne'⟩
  · next hinit =>
    rw [BitVec.toNat_setWidth_of_le (wid_le_32 i)]
    exact ⟨Nat.one_le_iff_ne_zero.mpr (BitVec.toNat_ne.mp hinit), (sl.init i).isLt⟩

/-- What is built from a well-formed table starts in range (R135 to R137). -/
theorem constructed_inRange (P : Config.Params) (hP : P.TapTabWf) (sl : Config.Slice) :
    (constructed P sl).InRange := by
  intro i
  have hlfsr : (constructed P sl).lfsr[i] = initialRegister sl i := by simp [constructed]
  have htap : (constructed P sl).tap[i] = P.tapTab i (sl.idx i) := by simp [constructed]
  rw [hlfsr, htap]
  exact ⟨initialRegister_inRange sl i, hP i (sl.idx i)⟩

/-- Settles O25: the range holds at construction and every tick keeps it. -/
theorem registersStayNonZeroUnderAWellFormedTable : Obligations.RegistersStayNonZeroUnderAWellFormedTable := by
  intro P hP sl n i
  obtain ⟨hrange, -⟩ := iterate_tick_inRange n _ (constructed_inRange P hP sl) i
  exact hrange

end Sys2Proof.Machine
end

section
/-! SUPPORT. The commands of the pixel packer (43_pixel_packer.md), and the statement about PK_RESET. -/

namespace Sys2Proof.Machine

/-- The word of PK_RESET: opcode 0x20 over zeros (R83, R168). -/
theorem decode_pkReset : decode 0x20000000 = .ok .pkReset :=
  decode_formatC 0x20 0 0

/-- In IDLE PK_RESET replaces the packer whole, so what was buffered is dropped and PIX is not touched (R160, R168). -/
theorem exec_pkReset_ready (s : State) (hs : s.Ready) :
    exec .pkReset s = .next (succeed { s with pk := Packer.fresh }) :=
  exec_ready .pkReset s rfl hs

/-- Settles O32: the word decodes, and a packer started afresh is empty, without direction and at pixel 0. -/
theorem pkResetStartsAfresh : Obligations.PkResetStartsAfresh :=
  ⟨decode_pkReset, exec_pkReset_ready⟩

end Sys2Proof.Machine
end

section
/-! SUPPORT. The four commands of the pipeline (44_pipeline.md R184, R188, R193, R194, R199), and the statements about
them: what the gate lets through, what construction writes, and what each command's checks and set-up make of the
state. -/

namespace Sys2Proof.Machine

/-! The gate outside IDLE -/

/-- A command the table permits has its effect in an unfaulted state (R100, R101). -/
theorem submit_permitted (i : Instr) (s : State) (f : State → State) (hf : s.faultedBy = none)
    (hp : permitted i s.plState = true) : submit i s f = f s := by
  simp [submit, (faulted_eq_false s).mpr hf, hp]

/-- PL_CANCEL is permitted in every pipeline state (R101). -/
theorem permitted_plCancel (p : PlState) : permitted .plCancel p = true := by cases p <;> rfl

/-- PL_ACK is permitted exactly outside the busy states (R101). -/
theorem permitted_plAck (p : PlState) : permitted .plAck p = !p.isBusy := by cases p <;> rfl

/-- BUSY as the list of the busy states (R27). -/
theorem busy_iff_mem (s : State) :
    s.busy = true ↔ s.plState ∈ [.encHdr, .encPay, .encFlush, .decHdr, .decAlloc, .decPay] := by
  rw [busy_eq_decide_mem, decide_eq_true_iff]

/-! The words -/

/-- The word of PL_ENCRYPT v (R83, R184). -/
theorem decode_plEncrypt (v : Byte) : decode (0x30000000 ||| v.setWidth 32) = .ok (.plEncrypt v) :=
  (congrArg decode (opcodeWord_or_immediate 0x30 v)).trans (decode_formatC _ _ _)

/-- The word of PL_DECRYPT (R83, R188). -/
theorem decode_plDecrypt : decode 0x31000000 = .ok .plDecrypt := decode_formatC 0x31 0 0

/-- The word of PL_CANCEL (R83, R193). -/
theorem decode_plCancel : decode 0x32000000 = .ok .plCancel := decode_formatC 0x32 0 0

/-- The word of PL_ACK (R83, R194). -/
theorem decode_plAck : decode 0x33000000 = .ok .plAck := decode_formatC 0x33 0 0

/-! Construction when masking -/

section
variable (P : Config.Params) (s : State)

/-- Only KS0_ALGO decides whether instance 0 runs the legacy algorithm (R141). -/
theorem usesLegacy_ks0_iff : usesLegacy P .ks0 = true ↔ P.ks0Algo = .legacy := beq_iff_eq

/-- What constructing instance 0 writes: the instance, and LSEED and LPOS for the legacy algorithm (R135, R141). -/
theorem construct_ks0 :
    construct P .ks0 s = { s with
      ks0 := constructed P (P.seedSlice s.seed0.buf)
      lseed := if P.ks0Algo = .legacy then s.seed0.buf else s.lseed
      lpos := if P.ks0Algo = .legacy then 0 else s.lpos } := by
  simp only [construct, latchLegacy, usesLegacy_ks0_iff]
  split_ifs <;> rfl

/-- Instance 0 is constructed when masking, and nothing is written otherwise. -/
theorem constructWhenMasking_ks0 :
    constructWhenMasking P .ks0 s = { s with
      ks0 := if s.maskEn = true then constructed P (P.seedSlice s.seed0.buf) else s.ks0
      lseed := if s.maskEn = true ∧ P.ks0Algo = .legacy then s.seed0.buf else s.lseed
      lpos := if s.maskEn = true ∧ P.ks0Algo = .legacy then 0 else s.lpos } := by
  simp only [constructWhenMasking, construct_ks0, ite_and]
  split_ifs <;> rfl

/-- Constructing the payload instance writes instance 1, for version 1 when masking, and nothing else (R135, R184). -/
theorem constructPayloadKs_eq (v : Byte) :
    constructPayloadKs P v s = { s with
      ks1 := if s.maskEn = true ∧ v = 1 then constructed P (P.seedSlice s.seed1.buf) else s.ks1 } := by
  simp only [constructPayloadKs, constructWhenMasking, ite_and]
  split_ifs <;> rfl

end

/-! PL_ENCRYPT -/

section
variable (P : Config.Params) (v : Byte) (s : State)

/-- The start checks of PL_ENCRYPT in their order, with the counts, the policy and the capacity written out (R181,
R184). -/
theorem encryptCheck_eq :
    encryptCheck P v s =
      if 1 < v.toNat then some .unsupportedHeaderVersion
      else if s.maskEn = true ∧ s.seed0.cnt ≠ 16 then some .invalidSeed
      else if s.maskEn = true ∧ v = 1 ∧ s.seed1.cnt ≠ 16 then some .invalidSeed
      else if s.maskEn = true ∧ v = 0 ∧ P.v0Policy = .reject then some .legacyUnsupported
      else if s.width.toNat * s.height.toNat * 3 / 4 < 5 + s.size.toNat then some .imageTooSmall
      else none := by
  refine if_congr (maxVersion_lt_iff v) rfl (if_congr ?seed0 rfl (if_congr ?seed1 rfl (if_congr ?policy rfl rfl)))
  case seed0 => simp [State.seedReady, State.seed]
  case seed1 => simp [State.seedReady, State.seed]
  case policy => simp

/-- What the set-up of an encrypt writes (R184). -/
theorem startEncrypt_eq :
    startEncrypt P v s = { s with
      code := .ok
      hdr := { version := v, size := s.size, count := 5, complete := true, unsup := false, hsize := 5 }
      pk := { q := [], mode := .enc, pixIdx := 0 }
      byteCnt := 0
      psel := if v = 1 then .ks1 else .ks0
      plState := .encHdr
      ks0 := if s.maskEn = true then constructed P (P.seedSlice s.seed0.buf) else s.ks0
      ks1 := if s.maskEn = true ∧ v = 1 then constructed P (P.seedSlice s.seed1.buf) else s.ks1
      lseed := if s.maskEn = true ∧ P.ks0Algo = .legacy then s.seed0.buf else s.lseed
      lpos := if s.maskEn = true ∧ P.ks0Algo = .legacy then 0 else s.lpos } := by
  rw [startEncrypt, constructWhenMasking_ks0, constructPayloadKs_eq]
  rfl

variable {P v s}

theorem plEncryptEffect_of_check_some {c : Code} (h : encryptCheck P v s = some c) :
    plEncryptEffect P v s = raiseFail c s := by
  rw [plEncryptEffect, h]

theorem plEncryptEffect_of_check_none (h : encryptCheck P v s = none) :
    plEncryptEffect P v s = startEncrypt P v s := by
  rw [plEncryptEffect, h]

/-- With a version that exists, the seeds it needs and a policy that lets it mask, the capacity alone decides (R184,
R199). -/
theorem encryptCheck_eq_capacity (hv : v.toNat ≤ 1)
    (hm : s.maskEn = true → s.seed0.cnt = 16 ∧ (v = 1 → s.seed1.cnt = 16) ∧ (v = 0 → P.v0Policy = .sameStream)) :
    encryptCheck P v s =
      if s.width.toNat * s.height.toNat * 3 / 4 < 5 + s.size.toNat then some .imageTooSmall else none := by
  have hseed0 : ¬ (s.maskEn = true ∧ s.seed0.cnt ≠ 16) := by
    rintro ⟨hmask, hcnt⟩
    obtain ⟨hstaged, -, -⟩ := hm hmask
    exact hcnt hstaged
  have hseed1 : ¬ (s.maskEn = true ∧ v = 1 ∧ s.seed1.cnt ≠ 16) := by
    rintro ⟨hmask, hv1, hcnt⟩
    obtain ⟨-, hstaged, -⟩ := hm hmask
    exact hcnt (hstaged hv1)
  have hpolicy : ¬ (s.maskEn = true ∧ v = 0 ∧ P.v0Policy = .reject) := by
    rintro ⟨hmask, hv0, hreject⟩
    obtain ⟨-, -, hsame⟩ := hm hmask
    exact absurd (hreject.symm.trans (hsame hv0)) (by decide)
  rw [encryptCheck_eq, if_neg hv.not_gt, if_neg hseed0, if_neg hseed1, if_neg hpolicy]

end

/-- In IDLE PL_ENCRYPT runs its checks and set-up (R184). -/
theorem exec_plEncrypt_ready (v : Byte) (s : State) (hs : s.Ready) :
    exec (.plEncrypt v) s = .next (plEncryptEffect Config.params v s) :=
  exec_ready _ s rfl hs

/-- Settles O40: the first check that fails names the code the operation ends with, and with none the set-up follows. -/
theorem plEncryptChecksThenStarts : Obligations.PlEncryptChecksThenStarts := by
  refine fun v => ⟨decode_plEncrypt v, fun s hs => ⟨_, exec_plEncrypt_ready v s hs, ?_⟩⟩
  have hcheck := encryptCheck_eq Config.params v s
  rw [← startEncrypt_eq]
  split_ifs at hcheck ⊢
  · exact plEncryptEffect_of_check_some hcheck
  · exact plEncryptEffect_of_check_some hcheck
  · exact plEncryptEffect_of_check_some hcheck
  · exact plEncryptEffect_of_check_some hcheck
  · exact plEncryptEffect_of_check_some hcheck
  · exact plEncryptEffect_of_check_none hcheck

/-- Settles O41: the checks before it pass, so the capacity check decides. -/
theorem capacityBoundaryIsExact : Obligations.CapacityBoundaryIsExact := by
  intro v s hs hv hm
  have hcheck := encryptCheck_eq_capacity hv hm
  rw [exec_plEncrypt_ready v s hs]
  refine ⟨fun hfits => ⟨_, rfl, ?_⟩, fun hshort => ?_⟩
  · rw [if_neg (by omega)] at hcheck
    rw [plEncryptEffect_of_check_none hcheck, startEncrypt_eq]
    exact ⟨rfl, rfl⟩
  · rw [if_pos (by omega)] at hcheck
    exact congrArg _ (plEncryptEffect_of_check_some hcheck)

/-! PL_DECRYPT -/

section
variable (P : Config.Params) (s : State)

/-- What the set-up of a decrypt writes (R188). -/
theorem startDecrypt_eq :
    startDecrypt P s = { s with
      code := .ok
      hdr := Header.empty
      pk := { Packer.fresh with mode := .dec }
      byteCnt := 0
      psel := .ks0
      plState := .decHdr
      ks0 := if s.maskEn = true then constructed P (P.seedSlice s.seed0.buf) else s.ks0
      lseed := if s.maskEn = true ∧ P.ks0Algo = .legacy then s.seed0.buf else s.lseed
      lpos := if s.maskEn = true ∧ P.ks0Algo = .legacy then 0 else s.lpos } := by
  rw [startDecrypt, constructWhenMasking_ks0]

/-- The seed check of PL_DECRYPT, with the count written out (R188). -/
theorem plDecryptEffect_eq :
    plDecryptEffect P s =
      if s.maskEn = true ∧ s.seed0.cnt ≠ 16 then raiseFail .invalidSeed s else startDecrypt P s := by
  simp [plDecryptEffect, State.seedReady, State.seed]

end

/-- Settles O42: the seed check, then the set-up. -/
theorem plDecryptChecksThenStarts : Obligations.PlDecryptChecksThenStarts := by
  refine ⟨decode_plDecrypt, fun s hs => ?_⟩
  rw [exec_ready .plDecrypt s rfl hs]
  change Host.Outcome.next (plDecryptEffect Config.params s) = _
  rw [plDecryptEffect_eq, startDecrypt_eq]
  rfl

/-! PL_CANCEL and PL_ACK -/

/-- Settles O43: no state rejects PL_CANCEL, and its effect is for the busy states alone. -/
theorem plCancelAbortsABusyOperation : Obligations.PlCancelAbortsABusyOperation := by
  refine ⟨decode_plCancel, fun s hf => ?_⟩
  rw [exec_eq_submit .plCancel s rfl, submit_permitted _ s _ hf (permitted_plCancel _)]
  change Host.Outcome.next (plCancelEffect s) = _
  simp only [plCancelEffect, busy_iff_mem]

/-- Settles O44: the gate stops PL_ACK in exactly the busy states; elsewhere it is the return to IDLE. -/
theorem plAckReturnsToIdle : Obligations.PlAckReturnsToIdle := by
  refine ⟨decode_plAck, fun s hf => ?_⟩
  have hgate : permitted .plAck s.plState = !s.busy := permitted_plAck s.plState
  simp only [← busy_iff_mem]
  rw [exec_eq_submit .plAck s rfl]
  cases hb : s.busy with
  | true => exact congrArg _ (submit_not_permitted .plAck s _ hf (by rw [hgate, hb]; rfl))
  | false => exact congrArg _ (submit_permitted .plAck s _ hf (by rw [hgate, hb]; rfl))

end Sys2Proof.Machine
end

section
/-! SUPPORT. The encoder and the decoder as inverses (30_encoding.md R81, R84, R86, R87), the match and mask table of
R83 read field by field, and the statements of the encoding family. -/

namespace Sys2Proof

/-! The fields of a word -/

/-- A word is its four fields side by side (R81). -/
theorem word_eq_fields (w : Word) : fieldOpc w ++ fieldRsv w ++ fieldK w ++ fieldImm w = w := by
  simp only [fieldOpc, fieldRsv, fieldK, fieldImm, BitVec.extractLsb'_append_extractLsb'_eq_extractLsb',
    BitVec.extractLsb'_eq_self]

/-- A word without reserved bits is the word of format C of its other fields (R81, R87). -/
theorem formatC_fields (w : Word) (h : fieldRsv w = 0) : formatC (fieldOpc w) (fieldK w) (fieldImm w) = w := by
  conv_rhs => rw [← word_eq_fields w, h]
  rfl

/-- A word that decodes has no reserved bit, and its fields decode (R84, R86). -/
theorem decode_eq_ok_iff (w : Word) (i : Instr) :
    decode w = .ok i ↔ fieldRsv w = 0 ∧ decodeFields (fieldOpc w) (fieldK w) (fieldImm w) = .ok i := by
  unfold decode
  split <;> simp_all

@[simp] theorem bitOfKsId_ksIdOfBit (k : BitVec 1) : bitOfKsId (ksIdOfBit k) = k := by
  revert k
  decide

/-! Decoding what was encoded -/

/-- Settles O2, command by command: the word is of format C, and each row of the opcode map gives its operands back. -/
theorem decodeOfEncodeIsTheCommand : Obligations.DecodeOfEncodeIsTheCommand := by
  intro i hwf
  cases i with
  | hdrByte j =>
    have hj : j.toNat ≤ 4 := of_decide_eq_true hwf
    exact (decode_formatC _ _ _).trans (by simp [decodeFields, hdrByteCommand, hj])
  | seedPush k b => exact (decode_formatC _ _ _).trans (by simp [decodeFields])
  | ksXor k b => exact (decode_formatC _ _ _).trans (by simp [decodeFields])
  | seedClear k => exact (decode_formatC _ _ _).trans (by simp [decodeFields, kCommand])
  | ksSeed k => exact (decode_formatC _ _ _).trans (by simp [decodeFields, kCommand])
  | ksBit k => exact (decode_formatC _ _ _).trans (by simp [decodeFields, kCommand])
  | ksByte k => exact (decode_formatC _ _ _).trans (by simp [decodeFields, kCommand])
  | hdrAdd b => exact (decode_formatC _ _ _).trans (by simp [decodeFields, immCommand])
  | hdrSet v => exact (decode_formatC _ _ _).trans (by simp [decodeFields, immCommand])
  | pkEncByte b => exact (decode_formatC _ _ _).trans (by simp [decodeFields, immCommand])
  | plEncrypt v => exact (decode_formatC _ _ _).trans (by simp [decodeFields, immCommand])
  | _ => exact decode_formatC _ _ _

/-! Encoding what was decoded -/

/-- The three fields are those of the word of i, and i has a word. -/
def Instr.HasFields (i : Instr) (opc : Byte) (k : BitVec 1) (imm : Byte) : Prop :=
  i.wellFormed = true ∧ encode i = formatC opc k imm

section
variable {opc o : Byte} {k : BitVec 1} {imm : Byte} {i : Instr}

theorem hasFields_of_plainCommand {c : Instr} (ho : opc = o) (h : plainCommand k imm c = .ok i)
    (hc : c.HasFields o 0 0) : i.HasFields opc k imm := by
  unfold plainCommand at h
  split at h
  · next hki => obtain ⟨rfl, rfl⟩ := hki; cases h; exact ho ▸ hc
  · cases h

theorem hasFields_of_kCommand {c : KsId → Instr} (ho : opc = o) (h : kCommand k imm c = .ok i)
    (hc : ∀ k, (c k).HasFields o (bitOfKsId k) 0) : i.HasFields opc k imm := by
  unfold kCommand at h
  split at h
  · next himm => cases h; simpa [ho, himm] using hc (ksIdOfBit k)
  · cases h

theorem hasFields_of_immCommand {c : Byte → Instr} (ho : opc = o) (h : immCommand k imm c = .ok i)
    (hc : ∀ b, (c b).HasFields o 0 b) : i.HasFields opc k imm := by
  unfold immCommand at h
  split at h
  · next hk => cases h; simpa [ho, hk] using hc imm
  · cases h

theorem hasFields_of_hdrByteCommand (ho : opc = 0x13) (h : hdrByteCommand k imm = .ok i) :
    i.HasFields opc k imm := by
  unfold hdrByteCommand at h
  split_ifs at h with hk hj
  · cases h
    rw [not_ne_iff.mp hk, ho]
    exact ⟨decide_eq_true hj, rfl⟩

theorem hasFields_of_both {c : KsId → Byte → Instr} (ho : opc = o) (h : c (ksIdOfBit k) imm = i)
    (hc : ∀ k b, (c k b).HasFields o (bitOfKsId k) b) : i.HasFields opc k imm := by
  cases h
  simpa [ho] using hc (ksIdOfBit k) imm

/-- Fields that decode are the fields of the command's own word (R83, R84). -/
theorem hasFields_of_decodeFields (h : decodeFields opc k imm = .ok i) : i.HasFields opc k imm := by
  unfold decodeFields at h
  obtain ⟨ho, h⟩ | ⟨-, h⟩ := ite_eq_iff.mp h
  · exact hasFields_of_plainCommand ho h ⟨rfl, rfl⟩
  obtain ⟨ho, h⟩ | ⟨-, h⟩ := ite_eq_iff.mp h
  · exact hasFields_of_both (c := .seedPush) ho (Except.ok.inj h) fun _ _ => ⟨rfl, rfl⟩
  obtain ⟨ho, h⟩ | ⟨-, h⟩ := ite_eq_iff.mp h
  · exact hasFields_of_kCommand ho h fun _ => ⟨rfl, rfl⟩
  obtain ⟨ho, h⟩ | ⟨-, h⟩ := ite_eq_iff.mp h
  · exact hasFields_of_kCommand ho h fun _ => ⟨rfl, rfl⟩
  obtain ⟨ho, h⟩ | ⟨-, h⟩ := ite_eq_iff.mp h
  · exact hasFields_of_kCommand ho h fun _ => ⟨rfl, rfl⟩
  obtain ⟨ho, h⟩ | ⟨-, h⟩ := ite_eq_iff.mp h
  · exact hasFields_of_kCommand ho h fun _ => ⟨rfl, rfl⟩
  obtain ⟨ho, h⟩ | ⟨-, h⟩ := ite_eq_iff.mp h
  · exact hasFields_of_both (c := .ksXor) ho (Except.ok.inj h) fun _ _ => ⟨rfl, rfl⟩
  obtain ⟨ho, h⟩ | ⟨-, h⟩ := ite_eq_iff.mp h
  · exact hasFields_of_plainCommand ho h ⟨rfl, rfl⟩
  obtain ⟨ho, h⟩ | ⟨-, h⟩ := ite_eq_iff.mp h
  · exact hasFields_of_immCommand ho h fun _ => ⟨rfl, rfl⟩
  obtain ⟨ho, h⟩ | ⟨-, h⟩ := ite_eq_iff.mp h
  · exact hasFields_of_immCommand ho h fun _ => ⟨rfl, rfl⟩
  obtain ⟨ho, h⟩ | ⟨-, h⟩ := ite_eq_iff.mp h
  · exact hasFields_of_hdrByteCommand ho h
  obtain ⟨ho, h⟩ | ⟨-, h⟩ := ite_eq_iff.mp h
  · exact hasFields_of_plainCommand ho h ⟨rfl, rfl⟩
  obtain ⟨ho, h⟩ | ⟨-, h⟩ := ite_eq_iff.mp h
  · exact hasFields_of_immCommand ho h fun _ => ⟨rfl, rfl⟩
  obtain ⟨ho, h⟩ | ⟨-, h⟩ := ite_eq_iff.mp h
  · exact hasFields_of_plainCommand ho h ⟨rfl, rfl⟩
  obtain ⟨ho, h⟩ | ⟨-, h⟩ := ite_eq_iff.mp h
  · exact hasFields_of_plainCommand ho h ⟨rfl, rfl⟩
  obtain ⟨ho, h⟩ | ⟨-, h⟩ := ite_eq_iff.mp h
  · exact hasFields_of_immCommand ho h fun _ => ⟨rfl, rfl⟩
  obtain ⟨ho, h⟩ | ⟨-, h⟩ := ite_eq_iff.mp h
  · exact hasFields_of_plainCommand ho h ⟨rfl, rfl⟩
  obtain ⟨ho, h⟩ | ⟨-, h⟩ := ite_eq_iff.mp h
  · exact hasFields_of_plainCommand ho h ⟨rfl, rfl⟩
  obtain ⟨ho, h⟩ | ⟨-, h⟩ := ite_eq_iff.mp h
  · exact hasFields_of_plainCommand ho h ⟨rfl, rfl⟩
  cases h

end

/-- Settles O3: the fields of a legal word are those of its command's word, and its reserved field is 0. -/
theorem everyLegalWordIsItsCommandsEncoding : Obligations.EveryLegalWordIsItsCommandsEncoding := by
  intro w i h
  obtain ⟨hrsv, hfields⟩ := (decode_eq_ok_iff w i).mp h
  obtain ⟨hwf, henc⟩ := hasFields_of_decodeFields hfields
  exact ⟨hwf, henc.trans (formatC_fields w hrsv)⟩

/-! The match and mask table -/

/-- Two words are equal when their four fields are (R81). -/
theorem word_eq_iff_fields (w x : Word) :
    w = x ↔ fieldOpc w = fieldOpc x ∧ fieldRsv w = fieldRsv x ∧ fieldK w = fieldK x ∧ fieldImm w = fieldImm x := by
  refine ⟨by rintro rfl; simp, fun ⟨hopc, hrsv, hk, himm⟩ => ?_⟩
  rw [← word_eq_fields w, ← word_eq_fields x, hopc, hrsv, hk, himm]

/-- A masked word compares field by field. -/
theorem and_mask_eq_iff (w m x : Word) :
    w &&& m = x ↔ fieldOpc w &&& fieldOpc m = fieldOpc x ∧ fieldRsv w &&& fieldRsv m = fieldRsv x ∧
      fieldK w &&& fieldK m = fieldK x ∧ fieldImm w &&& fieldImm m = fieldImm x := by
  rw [word_eq_iff_fields]
  simp only [fieldOpc, fieldRsv, fieldK, fieldImm, BitVec.extractLsb'_and]

/-- Every row's mask keeps the whole opcode field (R83). -/
theorem row_mask_opcode : ∀ r ∈ opcodeMap, fieldOpc r.mask = BitVec.allOnes 8 := by decide

/-- No opcode stands in two rows (R83). -/
theorem row_opcodes_nodup : (opcodeMap.map fun r => fieldOpc r.matchWord).Nodup := by decide

/-- A word that matches a row has the row's opcode. -/
theorem fieldOpc_of_match {w : Word} {r : OpcodeRow} (hr : r ∈ opcodeMap) (h : w &&& r.mask = r.matchWord) :
    fieldOpc w = fieldOpc r.matchWord := by
  obtain ⟨hopc, -⟩ := (and_mask_eq_iff w r.mask r.matchWord).mp h
  rwa [row_mask_opcode r hr, BitVec.and_allOnes] at hopc

/-- Settles O5: a word has one opcode, and each row has its own. -/
theorem opcodeRowsAreDisjoint : Obligations.OpcodeRowsAreDisjoint := by
  intro w r hr q hq hwr hwq
  have hopc := (fieldOpc_of_match hr hwr).symm.trans (fieldOpc_of_match hq hwq)
  exact List.inj_on_of_nodup_map row_opcodes_nodup hr hq hopc

/-- Every byte meets the bound of a row without a value restriction. -/
theorem byte_le_255 (b : Byte) : b.toNat ≤ 255 := Nat.le_of_lt_succ b.isLt

theorem fields_append (a : Byte) (b : BitVec 15) (c : BitVec 1) (d : Byte) :
    fieldOpc (a ++ b ++ c ++ d) = a ∧ fieldRsv (a ++ b ++ c ++ d) = b ∧ fieldK (a ++ b ++ c ++ d) = c ∧
      fieldImm (a ++ b ++ c ++ d) = d := by
  simp (disch := decide) only [fieldOpc, fieldRsv, fieldK, fieldImm, BitVec.extractLsb'_append_eq_of_le,
    BitVec.extractLsb'_append_eq_of_add_le]
  simp

section
variable (m : String) (opc : Byte) (w : Word)

/-- A row whose match word is the bare opcode and whose mask keeps OPC, RSV, the part mk of K and the part mi of IMM8
(R83). -/
theorem covers_row (mk : BitVec 1) (mi : Byte) (n : Nat) :
    (OpcodeRow.mk m (formatC opc 0 0) (BitVec.allOnes 8 ++ BitVec.allOnes 15 ++ mk ++ mi) n).covers w = true ↔
      (fieldOpc w = opc ∧ fieldRsv w = 0 ∧ fieldK w &&& mk = 0 ∧ fieldImm w &&& mi = 0) ∧ (fieldImm w).toNat ≤ n := by
  obtain ⟨hopc, hrsv, hk, himm⟩ := fields_append (BitVec.allOnes 8) (BitVec.allOnes 15) mk mi
  rw [OpcodeRow.covers, Bool.and_eq_true, decide_eq_true_iff, decide_eq_true_iff, and_mask_eq_iff, hopc, hrsv, hk, himm,
    fieldOpc_formatC, fieldK_formatC, fieldImm_formatC, Laws.RsvZero.fieldRsv_formatC, BitVec.and_allOnes,
    BitVec.and_allOnes]

/-- The row of a command without operands. -/
theorem covers_plain : (OpcodeRow.mk m (formatC opc 0 0) 0xFFFFFFFF 255).covers w = true ↔
    fieldOpc w = opc ∧ fieldRsv w = 0 ∧ fieldK w = 0 ∧ fieldImm w = 0 := by
  have h := covers_row m opc w (BitVec.allOnes 1) (BitVec.allOnes 8) 255
  rw [BitVec.and_allOnes, BitVec.and_allOnes] at h
  simpa [byte_le_255] using h

/-- The row of a command with K only. -/
theorem covers_k : (OpcodeRow.mk m (formatC opc 0 0) 0xFFFFFEFF 255).covers w = true ↔
    fieldOpc w = opc ∧ fieldRsv w = 0 ∧ fieldImm w = 0 := by
  have h := covers_row m opc w 0 (BitVec.allOnes 8) 255
  rw [BitVec.and_allOnes] at h
  simpa [byte_le_255] using h

/-- The row of a command with IMM8 only, and its bound on IMM8. -/
theorem covers_imm (n : Nat) : (OpcodeRow.mk m (formatC opc 0 0) 0xFFFFFF00 n).covers w = true ↔
    (fieldOpc w = opc ∧ fieldRsv w = 0 ∧ fieldK w = 0) ∧ (fieldImm w).toNat ≤ n := by
  have h := covers_row m opc w (BitVec.allOnes 1) 0 n
  rw [BitVec.and_allOnes] at h
  simpa using h

/-- The row of a command with both operands. -/
theorem covers_both : (OpcodeRow.mk m (formatC opc 0 0) 0xFFFFFE00 255).covers w = true ↔
    fieldOpc w = opc ∧ fieldRsv w = 0 := by
  simpa [byte_le_255] using covers_row m opc w 0 0 255

end

section
variable (m : String) (opc : Byte) (k : BitVec 1) (b : Byte)

theorem covers_word_plain : (OpcodeRow.mk m (formatC opc 0 0) 0xFFFFFFFF 255).covers (formatC opc 0 0) = true :=
  (covers_plain m opc _).mpr (by simp [Laws.RsvZero.fieldRsv_formatC])

theorem covers_word_k : (OpcodeRow.mk m (formatC opc 0 0) 0xFFFFFEFF 255).covers (formatC opc k 0) = true :=
  (covers_k m opc _).mpr (by simp [Laws.RsvZero.fieldRsv_formatC])

theorem covers_word_imm (n : Nat) (hb : b.toNat ≤ n) :
    (OpcodeRow.mk m (formatC opc 0 0) 0xFFFFFF00 n).covers (formatC opc 0 b) = true :=
  (covers_imm m opc _ n).mpr (by simp [Laws.RsvZero.fieldRsv_formatC, hb])

theorem covers_word_both : (OpcodeRow.mk m (formatC opc 0 0) 0xFFFFFE00 255).covers (formatC opc k b) = true :=
  (covers_both m opc _).mpr (by simp [Laws.RsvZero.fieldRsv_formatC])

end

section
variable {m : String} {w : Word} (opc : Byte)

theorem decodes_plain {c : Instr} (hm : c.mnemonic = m) (hd : decodeFields opc 0 0 = .ok c)
    (h : (OpcodeRow.mk m (formatC opc 0 0) 0xFFFFFFFF 255).covers w = true) :
    ∃ i, decode w = .ok i ∧ i.mnemonic = m := by
  obtain ⟨hopc, hrsv, hk, himm⟩ := (covers_plain m opc w).mp h
  exact ⟨c, (decode_eq_ok_iff w c).mpr ⟨hrsv, by rw [hopc, hk, himm, hd]⟩, hm⟩

theorem decodes_k {c : KsId → Instr} (hm : ∀ k, (c k).mnemonic = m)
    (hd : ∀ k, decodeFields opc k 0 = .ok (c (ksIdOfBit k)))
    (h : (OpcodeRow.mk m (formatC opc 0 0) 0xFFFFFEFF 255).covers w = true) :
    ∃ i, decode w = .ok i ∧ i.mnemonic = m := by
  obtain ⟨hopc, hrsv, himm⟩ := (covers_k m opc w).mp h
  exact ⟨c _, (decode_eq_ok_iff w _).mpr ⟨hrsv, by rw [hopc, himm, hd]⟩, hm _⟩

theorem decodes_imm {c : Byte → Instr} (hm : ∀ b, (c b).mnemonic = m) (hd : ∀ b, decodeFields opc 0 b = .ok (c b))
    (h : (OpcodeRow.mk m (formatC opc 0 0) 0xFFFFFF00 255).covers w = true) :
    ∃ i, decode w = .ok i ∧ i.mnemonic = m := by
  obtain ⟨⟨hopc, hrsv, hk⟩, -⟩ := (covers_imm m opc w 255).mp h
  exact ⟨c _, (decode_eq_ok_iff w _).mpr ⟨hrsv, by rw [hopc, hk, hd]⟩, hm _⟩

theorem decodes_both {c : KsId → Byte → Instr} (hm : ∀ k b, (c k b).mnemonic = m)
    (hd : ∀ k b, decodeFields opc k b = .ok (c (ksIdOfBit k) b))
    (h : (OpcodeRow.mk m (formatC opc 0 0) 0xFFFFFE00 255).covers w = true) :
    ∃ i, decode w = .ok i ∧ i.mnemonic = m := by
  obtain ⟨hopc, hrsv⟩ := (covers_both m opc w).mp h
  exact ⟨c _ _, (decode_eq_ok_iff w _).mpr ⟨hrsv, by rw [hopc, hd]⟩, hm _ _⟩

/-- The one row with a value restriction (R83, R84). -/
theorem decodes_hdrByte (h : (OpcodeRow.mk "HDR_BYTE" 0x13000000 0xFFFFFF00 4).covers w = true) :
    ∃ i, decode w = .ok i ∧ i.mnemonic = "HDR_BYTE" := by
  obtain ⟨⟨hopc, hrsv, hk⟩, hj⟩ := (covers_imm "HDR_BYTE" 0x13 w 4).mp h
  have hd : decodeFields 0x13 0 (fieldImm w) = .ok (.hdrByte (fieldImm w)) := if_pos hj
  exact ⟨_, (decode_eq_ok_iff w _).mpr ⟨hrsv, by rw [hopc, hk, hd]⟩, rfl⟩

end

/-- Settles O4: a legal word is its command's word, which the command's row covers; and a row that covers a word fixes
the fields its command reads. -/
theorem decodeAgreesWithMatchAndMask : Obligations.DecodeAgreesWithMatchAndMask := by
  refine ⟨fun w i h => ?_, fun w => ?_⟩
  · obtain ⟨hwf, rfl⟩ := everyLegalWordIsItsCommandsEncoding w i h
    cases i with
    | nop => exact ⟨opcodeMap[0], List.getElem_mem _, covers_word_plain _ 0x00, rfl⟩
    | seedPush k b => exact ⟨opcodeMap[1], List.getElem_mem _, covers_word_both _ 0x01 _ b, rfl⟩
    | seedClear k => exact ⟨opcodeMap[2], List.getElem_mem _, covers_word_k _ 0x02 _, rfl⟩
    | ksSeed k => exact ⟨opcodeMap[3], List.getElem_mem _, covers_word_k _ 0x03 _, rfl⟩
    | ksBit k => exact ⟨opcodeMap[4], List.getElem_mem _, covers_word_k _ 0x04 _, rfl⟩
    | ksByte k => exact ⟨opcodeMap[5], List.getElem_mem _, covers_word_k _ 0x05 _, rfl⟩
    | ksXor k b => exact ⟨opcodeMap[6], List.getElem_mem _, covers_word_both _ 0x06 _ b, rfl⟩
    | hdrNew => exact ⟨opcodeMap[7], List.getElem_mem _, covers_word_plain _ 0x10, rfl⟩
    | hdrAdd b => exact ⟨opcodeMap[8], List.getElem_mem _, covers_word_imm _ 0x11 b 255 (byte_le_255 b), rfl⟩
    | hdrSet b => exact ⟨opcodeMap[9], List.getElem_mem _, covers_word_imm _ 0x12 b 255 (byte_le_255 b), rfl⟩
    | hdrByte j => exact ⟨opcodeMap[10], List.getElem_mem _, covers_word_imm _ 0x13 j 4 (of_decide_eq_true hwf), rfl⟩
    | pkReset => exact ⟨opcodeMap[11], List.getElem_mem _, covers_word_plain _ 0x20, rfl⟩
    | pkEncByte b => exact ⟨opcodeMap[12], List.getElem_mem _, covers_word_imm _ 0x21 b 255 (byte_le_255 b), rfl⟩
    | pkEncFlush => exact ⟨opcodeMap[13], List.getElem_mem _, covers_word_plain _ 0x22, rfl⟩
    | pkDecByte => exact ⟨opcodeMap[14], List.getElem_mem _, covers_word_plain _ 0x23, rfl⟩
    | plEncrypt b => exact ⟨opcodeMap[15], List.getElem_mem _, covers_word_imm _ 0x30 b 255 (byte_le_255 b), rfl⟩
    | plDecrypt => exact ⟨opcodeMap[16], List.getElem_mem _, covers_word_plain _ 0x31, rfl⟩
    | plCancel => exact ⟨opcodeMap[17], List.getElem_mem _, covers_word_plain _ 0x32, rfl⟩
    | plAck => exact ⟨opcodeMap[18], List.getElem_mem _, covers_word_plain _ 0x33, rfl⟩
  · simp only [opcodeMap, List.cons_append, List.nil_append, List.forall_mem_cons]
    exact ⟨decodes_plain 0x00 (c := .nop) rfl rfl,
      decodes_both 0x01 (c := .seedPush) (fun _ _ => rfl) fun _ _ => rfl,
      decodes_k 0x02 (c := .seedClear) (fun _ => rfl) fun _ => rfl,
      decodes_k 0x03 (c := .ksSeed) (fun _ => rfl) fun _ => rfl,
      decodes_k 0x04 (c := .ksBit) (fun _ => rfl) fun _ => rfl,
      decodes_k 0x05 (c := .ksByte) (fun _ => rfl) fun _ => rfl,
      decodes_both 0x06 (c := .ksXor) (fun _ _ => rfl) fun _ _ => rfl,
      decodes_plain 0x10 (c := .hdrNew) rfl rfl,
      decodes_imm 0x11 (c := .hdrAdd) (fun _ => rfl) fun _ => rfl,
      decodes_imm 0x12 (c := .hdrSet) (fun _ => rfl) fun _ => rfl,
      decodes_hdrByte,
      decodes_plain 0x20 (c := .pkReset) rfl rfl,
      decodes_imm 0x21 (c := .pkEncByte) (fun _ => rfl) fun _ => rfl,
      decodes_plain 0x22 (c := .pkEncFlush) rfl rfl,
      decodes_plain 0x23 (c := .pkDecByte) rfl rfl,
      decodes_imm 0x30 (c := .plEncrypt) (fun _ => rfl) fun _ => rfl,
      decodes_plain 0x31 (c := .plDecrypt) rfl rfl,
      decodes_plain 0x32 (c := .plCancel) rfl rfl,
      decodes_plain 0x33 (c := .plAck) rfl rfl, nofun⟩

/-- Settles O1: each word's fields are written out, so the opcode map computes. -/
theorem specWordsDecodeAsTheMapSays : Obligations.SpecWordsDecodeAsTheMapSays := by
  unfold Obligations.SpecWordsDecodeAsTheMapSays
  decide

end Sys2Proof
end

section
/-! SUPPORT. What a transition can do, said once (00_scope.md R15, 40_command.md R100 to R102, R105, 20_memory.md R60,
R72), and the statements about the host's side of the machine: who moves, the faulted model, and the register window. -/

namespace Sys2Proof.Machine

/-! Who moves -/

/-- Settles O6: the schedule's head is performed, a CMD write by running its command, and an empty schedule is the
sequencer's turn. -/
theorem stepRunsTheSubmittedCommand : Obligations.StepRunsTheSubmittedCommand := by
  refine ⟨fun s w i rest hs hw => ?_, step_event, step_idle_schedule⟩
  rw [step_event s _ rest hs]
  change submitWord w _ = _
  rw [submitWord, hw]

/-! Register accesses -/

section
variable {off bits : Nat}

theorem accessFault_misaligned (h : bits ≠ 32 ∨ off % 4 ≠ 0) : accessFault off bits = some .misalignedCsr :=
  if_pos h

theorem accessFault_outside (hb : bits = 32) (ha : off % 4 = 0) (ho : 0x100 ≤ off) :
    accessFault off bits = some .csrOutOfWindow := by
  simp [accessFault, hb, ha, ho]

theorem accessFault_inside (ha : off % 4 = 0) (ho : off < 0x100) : accessFault off 32 = none := by
  simp [accessFault, ha, ho]

theorem csrWrite_of_accessFault {r : CsrFault} (h : accessFault off bits = some r) (v : Word) (s : State) :
    csrWrite off bits v s = .next (raiseFault r s) := by
  rw [csrWrite, h]

theorem csrRead_of_accessFault {r : CsrFault} (h : accessFault off bits = some r) (s : State) :
    csrRead off bits s = .next (raiseFault r s) := by
  rw [csrRead, h]

theorem csrWrite_register (h : accessFault off bits = none) (ho : off ≠ 0x04) (v : Word) (s : State) :
    csrWrite off bits v s = .next (writeCsr s off v) := by
  rw [csrWrite, h]
  exact if_neg ho

theorem csrRead_inside (h : accessFault off bits = none) (s : State) :
    csrRead off bits s = .next (handOver (csrValue s off) s) := by
  rw [csrRead, h]

end

section
variable {s : State}

/-- A fault raised on an unfaulted state is its reason (R227). -/
theorem raiseFault_unfaulted (r : CsrFault) (hf : s.faultedBy = none) :
    raiseFault r s = { s with faultedBy := some r } := by
  rw [raiseFault, hf]

/-- A faulted state keeps its reason (R227; log entry 5). -/
theorem raiseFault_faulted (r : CsrFault) (hf : s.faultedBy ≠ none) : raiseFault r s = s := by
  obtain ⟨h, -⟩ | ⟨-, h⟩ := raiseFault_cases r s
  · exact absurd h hf
  · exact h

theorem writeCsr_faulted (off : Nat) (v : Word) (hf : s.faultedBy ≠ none) : writeCsr s off v = s :=
  if_pos ((faulted_eq_true s).mpr hf)

theorem handOver_faulted (v : Word) (hf : s.faultedBy ≠ none) : handOver v s = s :=
  if_pos ((faulted_eq_true s).mpr hf)

theorem handOver_unfaulted (v : Word) (hf : s.faultedBy = none) : handOver v s = { s with busData := some v } := by
  simp [handOver, (faulted_eq_false s).mpr hf]

/-- What a host write to a register other than CMD can do (R105). -/
theorem writeCsr_cases (s : State) (off : Nat) (v : Word) :
    (s.faultedBy ≠ none ∧ writeCsr s off v = s) ∨
      (s.faultedBy = none ∧ isRw off = true ∧ s.plState ≠ .idle ∧ writeCsr s off v = reject s) ∨
      (s.faultedBy = none ∧ (isRw off = false ∨ s.plState = .idle) ∧ writeCsr s off v = writeRegister s off v) := by
  unfold writeCsr
  cases hf : s.faulted
  · have := (faulted_eq_false s).mp hf
    cases hrw : isRw off <;> by_cases hp : s.plState = .idle <;> simp [this, hp]
  · simp [(faulted_eq_true s).mp hf]

/-- Only CTRL, IMG_DIM and SIZE are written at all (R23). -/
theorem isRw_iff (off : Nat) : isRw off = true ↔ off = 0x0C ∨ off = 0x14 ∨ off = 0x18 := by
  simp [isRw, or_assoc]

theorem writeRegister_not_rw (s : State) {off : Nat} (v : Word) (h : isRw off = false) :
    writeRegister s off v = s := by
  have hoff : ¬ (off = 0x0C ∨ off = 0x14 ∨ off = 0x18) := by simp [← isRw_iff, h]
  obtain ⟨hctrl, hdim, hsize⟩ := by simpa only [not_or] using hoff
  rw [writeRegister, if_neg hctrl, if_neg hdim, if_neg hsize]

end

/-! The host's own memories -/

/-- What a host access to PIX, IN or OUT does when it is carried out (R61, R63, R64). -/
def hostAccess (e : Event) (s : State) : State :=
  match e with
  | .pixWrite p v => { s with pix := s.pix.writePixel p v }
  | .pixRead p => handOver (s.pix.readPixel p) s
  | .inWrite i b => { s with input := s.input.write i b }
  | .inRead i => handOver (zext32 (s.input.read i)) s
  | .outWrite i b => { s with output := s.output.write i b }
  | .outRead i => handOver (zext32 (s.output.read i)) s
  | _ => s

/-- Every event that BUSY bars is a host access under the host's duty (R76, R258). -/
theorem perform_barred {e : Event} (h : e.barredWhileBusy = true) (s : State) :
    perform e s = ownMemory s (hostAccess e) := by
  cases e with
  | csrWrite | csrRead | answerAlloc | sequencer | reset => nomatch h
  | pixWrite | pixRead | inWrite | inRead | outWrite | outRead => rfl

theorem mover_barred {e : Event} (h : e.barredWhileBusy = true) : e.mover = .other := by
  cases e with
  | csrWrite | csrRead | answerAlloc | sequencer | reset => nomatch h
  | pixWrite | pixRead | inWrite | inRead | outWrite | outRead => rfl

/-! The faulted model -/

section
variable {s : State}

theorem submitIllegal_faulted (hf : s.faultedBy ≠ none) : submitIllegal s = s :=
  if_pos ((faulted_eq_true s).mpr hf)

theorem submit_faulted (i : Instr) (f : State → State) (hf : s.faultedBy ≠ none) : submit i s f = s :=
  if_pos ((faulted_eq_true s).mpr hf)

theorem exec_faulted (i : Instr) (hf : s.faultedBy ≠ none) : exec i s = .next s := by
  cases hw : i.wellFormed with
  | true => rw [exec_eq_submit i s hw, submit_faulted i _ hf]
  | false => rw [exec_eq_submitIllegal i s hw, submitIllegal_faulted hf]

theorem submitWord_faulted (w : Word) (hf : s.faultedBy ≠ none) : submitWord w s = .next s := by
  unfold submitWord
  split
  · exact exec_faulted _ hf
  · rw [submitIllegal_faulted hf]

theorem csrWrite_faulted (off bits : Nat) (v : Word) (hf : s.faultedBy ≠ none) : csrWrite off bits v s = .next s := by
  unfold csrWrite
  split
  · rw [raiseFault_faulted _ hf]
  split
  · exact submitWord_faulted v hf
  · rw [writeCsr_faulted _ _ hf]

theorem csrRead_faulted (off bits : Nat) (hf : s.faultedBy ≠ none) : csrRead off bits s = .next s := by
  unfold csrRead
  split
  · rw [raiseFault_faulted _ hf]
  · rw [handOver_faulted _ hf]

theorem ownMemory_faulted (f : State → State) (hf : s.faultedBy ≠ none) : ownMemory s f = .next s :=
  if_pos ((faulted_eq_true s).mpr hf)

/-- No event but a reset and the host's own change of mind has an effect on a faulted model (R227). -/
theorem perform_faulted (e : Event) (hf : s.faultedBy ≠ none) (hr : e ≠ .reset) (ha : ∀ g, e ≠ .answerAlloc g) :
    perform e s = .next s := by
  cases e with
  | csrWrite off bits v => exact csrWrite_faulted off bits v hf
  | csrRead off bits => exact csrRead_faulted off bits hf
  | answerAlloc g => exact absurd rfl (ha g)
  | sequencer => exact sequencerStep_faulted _ s hf
  | reset => exact absurd rfl hr
  | pixWrite | pixRead | inWrite | inRead | outWrite | outRead =>
    rw [perform_barred rfl]
    exact ownMemory_faulted _ hf

end

/-- Settles O9. -/
theorem faultedModelNeverMoves : Obligations.FaultedModelNeverMoves := by
  intro s r hr
  have hf : s.faultedBy ≠ none := by simp [hr]
  refine ⟨fun i => exec_faulted i hf, fun e rest hs hreset halloc => ?_, fun hs => ?_⟩
  · rw [step_event s e rest hs]
    exact perform_faulted e hf hreset halloc
  · rw [step_idle_schedule s hs]
    exact sequencerStep_faulted _ s hf

/-- A scheduled register access that faults marks the model and does nothing else (R60, R227). -/
theorem step_of_accessFault {s : State} {off bits : Nat} {v : Word} {rest : List Event} {r : CsrFault}
    (hf : s.faultedBy = none) (hs : s.schedule = .csrWrite off bits v :: rest ∨ s.schedule = .csrRead off bits :: rest)
    (h : accessFault off bits = some r) : step s = .next { s with schedule := rest, faultedBy := some r } := by
  have hraise : raiseFault r { s with schedule := rest } = { s with schedule := rest, faultedBy := some r } :=
    raiseFault_unfaulted r hf
  rw [← hraise]
  obtain hs | hs := hs <;> rw [step_event s _ rest hs]
  · exact csrWrite_of_accessFault h v _
  · exact csrRead_of_accessFault h _

/-- Settles O10: the access names its fault, misaligned first. -/
theorem badRegisterAccessFaultsTheModel : Obligations.BadRegisterAccessFaultsTheModel := by
  intro s off bits v rest hf hs
  exact ⟨fun h => step_of_accessFault hf hs (accessFault_misaligned h),
    fun hb ha ho => step_of_accessFault hf hs (accessFault_outside hb ha ho)⟩

/-- Settles O11: the cases of a register write, and a read that only hands its value over. -/
theorem registerWritesNeedIdle : Obligations.RegisterWritesNeedIdle := by
  refine ⟨fun s off v hf ha ho hcmd => ?write, fun s off v hf => csrWrite_faulted off 32 v hf, fun s off ha ho => ?read⟩
  case write =>
    rw [csrWrite_register (accessFault_inside ha ho) hcmd]
    congr 1
    simp only [← isRw_iff]
    obtain ⟨h, -⟩ | ⟨-, hrw, hp, h⟩ | ⟨-, hrw | hp, h⟩ := writeCsr_cases s off v
    · exact absurd hf h
    · rw [h, if_pos hrw, if_pos hp]
      rfl
    · rw [h, hrw, writeRegister_not_rw s v hrw]
      rfl
    · rw [h]
      cases hrw : isRw off with
      | false => exact writeRegister_not_rw s v hrw
      | true =>
        obtain rfl | rfl | rfl := (isRw_iff off).mp hrw <;> simp [hp, writeRegister]
  case read =>
    rw [csrRead_inside (accessFault_inside ha ho)]
    congr 1
    by_cases hf : s.faultedBy = none
    · rw [handOver_unfaulted _ hf, if_pos hf]
    · rw [handOver_faulted _ hf, if_neg hf]

/-! What a transition can do -/

/-- What the next transition of s can be, by who moves: s is the state with the event taken off its schedule. -/
inductive Transition (s : State) : Mover → State → Prop where
  /-- Nothing changes: the model is faulted, or nobody has a move. -/
  | still (m : Mover) : Transition s m s
  | effect (i : Instr) (hf : s.faultedBy = none) (hp : permitted i s.plState = true) :
      Transition s (.command i) (commandEffect Config.params i s)
  | illegal (m : Mover) (hp : s.plState = .idle) : Transition s m (raiseError .illegalCommand s)
  | rejected (m : Mover) : Transition s m (reject s)
  | faulted (r : CsrFault) : Transition s .other { s with faultedBy := some r }
  | wrote (off : Nat) (v : Word) (hp : s.plState = .idle) : Transition s .other (writeRegister s off v)
  | handed (v : Word) : Transition s .other { s with busData := some v }
  | pixWritten (p : Nat) (v : Word) : Transition s .other { s with pix := s.pix.writePixel p v }
  | inWritten (i : Nat) (b : Byte) : Transition s .other { s with input := s.input.write i b }
  | outWritten (i : Nat) (b : Byte) : Transition s .other { s with output := s.output.write i b }
  | answered (g : Bool) : Transition s .other { s with allocAnswer := g }
  | sequenced {t : State} (hf : s.faultedBy = none) (h : sequencerStep Config.params s = .next t) :
      Transition s .sequencer t
  | reset : Transition s .reset (applyReset s)

section
variable {s t : State} {m : Mover}

theorem Transition.of_eq (h : t = s) : Transition s m t := h ▸ .still m

theorem submitIllegal_transition : Transition s m (submitIllegal s) := by
  obtain ⟨-, h⟩ | ⟨-, hp, h⟩ | ⟨-, -, h⟩ := submitIllegal_cases s <;> rw [h]
  · exact .still m
  · exact .illegal m hp
  · exact .rejected m

theorem exec_transition {i : Instr} (h : exec i s = .next t) : Transition s (.command i) t := by
  cases hw : i.wellFormed with
  | false =>
    rw [exec_eq_submitIllegal i s hw] at h
    cases h
    exact submitIllegal_transition
  | true =>
    rw [exec_eq_submit i s hw] at h
    cases h
    obtain ⟨-, he⟩ | ⟨hf, hp, he⟩ | ⟨-, -, he⟩ := submit_cases i s (commandEffect Config.params i) <;> rw [he]
    · exact .still _
    · exact .effect i hf hp
    · exact .rejected _

theorem submitWord_transition {w : Word} (h : submitWord w s = .next t) :
    Transition s (Event.csrWrite 0x04 32 w).mover t := by
  unfold submitWord at h
  cases hw : decode w with
  | ok i =>
    have hm : (Event.csrWrite 0x04 32 w).mover = .command i := by simp [Event.mover, hw]
    rw [hw] at h
    rw [hm]
    exact exec_transition h
  | error e =>
    rw [hw] at h
    cases h
    exact submitIllegal_transition

theorem raiseFault_transition (r : CsrFault) : Transition s .other (raiseFault r s) := by
  obtain ⟨-, h⟩ | ⟨-, h⟩ := raiseFault_cases r s <;> rw [h]
  · exact .faulted r
  · exact .still _

theorem writeCsr_transition (off : Nat) (v : Word) : Transition s .other (writeCsr s off v) := by
  obtain ⟨-, h⟩ | ⟨-, -, -, h⟩ | ⟨-, hrw | hp, h⟩ := writeCsr_cases s off v <;> rw [h]
  · exact .still _
  · exact .rejected _
  · exact .of_eq (writeRegister_not_rw s v hrw)
  · exact .wrote off v hp

theorem handOver_transition (v : Word) : Transition s .other (handOver v s) := by
  by_cases hf : s.faultedBy = none
  · exact handOver_unfaulted v hf ▸ .handed v
  · exact .of_eq (handOver_faulted v hf)

/-- An access that is no CMD write is moved by neither the host's commands nor the sequencer. -/
theorem csrWrite_mover_other {off bits : Nat} {v : Word} (h : ¬ (off = 0x04 ∧ bits = 32)) :
    (Event.csrWrite off bits v).mover = .other := if_neg h

theorem accessFault_cmd : accessFault 0x04 32 = none := rfl

theorem csrWrite_transition {off bits : Nat} {v : Word} (h : csrWrite off bits v s = .next t) :
    Transition s (Event.csrWrite off bits v).mover t := by
  by_cases hcmd : off = 0x04 ∧ bits = 32
  · obtain ⟨rfl, rfl⟩ := hcmd
    exact submitWord_transition h
  · rw [csrWrite_mover_other hcmd]
    unfold csrWrite at h
    split at h
    · cases h
      exact raiseFault_transition _
    · next hacc =>
      rw [if_neg fun hoff => hcmd ⟨hoff, bits_of_accessFault_none hacc⟩] at h
      cases h
      exact writeCsr_transition off v

theorem csrRead_transition {off bits : Nat} (h : csrRead off bits s = .next t) : Transition s .other t := by
  unfold csrRead at h
  split at h <;> cases h
  · exact raiseFault_transition _
  · exact handOver_transition _

theorem ownMemory_transition {f : State → State} (hf : Transition s .other (f s)) (h : ownMemory s f = .next t) :
    Transition s .other t := by
  obtain ⟨-, he⟩ | ⟨-, -, he⟩ | ⟨-, -, he⟩ := ownMemory_cases s f <;> rw [he] at h <;> cases h
  · exact .still _
  · exact hf

theorem sequencerStep_transition (h : sequencerStep Config.params s = .next t) : Transition s .sequencer t := by
  by_cases hf : s.faultedBy = none
  · exact .sequenced hf h
  · rw [sequencerStep_faulted _ s hf] at h
    cases h
    exact .still _

theorem hostAccess_transition (e : Event) (s : State) : Transition s .other (hostAccess e s) := by
  cases e with
  | pixWrite p v => exact .pixWritten p v
  | inWrite i b => exact .inWritten i b
  | outWrite i b => exact .outWritten i b
  | pixRead | inRead | outRead => exact handOver_transition _
  | csrWrite | csrRead | answerAlloc | sequencer | reset => exact .still _

theorem perform_transition {e : Event} (h : perform e s = .next t) : Transition s e.mover t := by
  cases e with
  | csrWrite off bits v => exact csrWrite_transition h
  | csrRead off bits => exact csrRead_transition h
  | answerAlloc g =>
    cases h
    exact .answered g
  | sequencer => exact sequencerStep_transition h
  | reset =>
    cases h
    exact .reset
  | pixWrite | pixRead | inWrite | inRead | outWrite | outRead =>
    rw [perform_barred rfl] at h
    exact ownMemory_transition (hostAccess_transition _ s) h

/-- The state whose next event has been taken off the schedule. -/
def State.dequeued (s : State) : State := { s with schedule := s.schedule.tail }

theorem dequeued_of_nil (hs : s.schedule = []) : s.dequeued = s := by
  rw [State.dequeued, hs, List.tail_nil, ← hs]

/-- Every step is a transition of the state with its event taken off the schedule. -/
theorem step_transition (h : step s = .next t) : Transition s.dequeued s.mover t := by
  cases hs : s.schedule with
  | nil =>
    have hm : s.mover = .sequencer := by simp [State.mover, hs]
    rw [step_idle_schedule s hs] at h
    rw [hm, dequeued_of_nil hs]
    exact sequencerStep_transition h
  | cons e rest =>
    have hm : s.mover = e.mover := by simp [State.mover, hs]
    have hd : s.dequeued = { s with schedule := rest } := by rw [State.dequeued, hs, List.tail_cons]
    rw [step_event s e rest hs] at h
    rw [hm, hd]
    exact perform_transition h

end

/-! Refusals -/

section
variable {s : State} {r : Refusal}

theorem exec_ne_refused (i : Instr) : exec i s ≠ .refused r := by
  cases hw : i.wellFormed with
  | true => simp [exec_eq_submit i s hw]
  | false => simp [exec_eq_submitIllegal i s hw]

theorem submitWord_ne_refused (w : Word) : submitWord w s ≠ .refused r := by
  unfold submitWord
  split
  · exact exec_ne_refused _
  · nofun

theorem csrWrite_ne_refused (off bits : Nat) (v : Word) : csrWrite off bits v s ≠ .refused r := by
  unfold csrWrite
  split
  · nofun
  split
  · exact submitWord_ne_refused v
  · nofun

theorem csrRead_ne_refused (off bits : Nat) : csrRead off bits s ≠ .refused r := by
  unfold csrRead
  split <;> nofun

theorem sequencerStep_ne_refused (P : Config.Params) : sequencerStep P s ≠ .refused r := by
  unfold sequencerStep stepEncHdr stepEncPay stepEncFlush stepDecHdr stepDecAlloc stepDecPay
  repeat' split
  all_goals nofun

theorem ownMemory_eq_refused (f : State → State) :
    ownMemory s f = .refused r ↔ r = .hostDutyBroken ∧ s.faultedBy = none ∧ s.busy = true := by
  obtain ⟨hf, h⟩ | ⟨hf, hb, h⟩ | ⟨hf, hb, h⟩ := ownMemory_cases s f <;> rw [h]
  · simp [hf]
  · simp [hf, hb, eq_comm]
  · simp [hf, hb]

/-- Only a host access that BUSY bars is refused (R258; log entry 10). -/
theorem perform_eq_refused (e : Event) :
    perform e s = .refused r ↔
      r = .hostDutyBroken ∧ s.faultedBy = none ∧ s.busy = true ∧ e.barredWhileBusy = true := by
  cases e with
  | csrWrite off bits v => exact ⟨fun h => absurd h (csrWrite_ne_refused off bits v), nofun⟩
  | csrRead off bits => exact ⟨fun h => absurd h (csrRead_ne_refused off bits), nofun⟩
  | sequencer => exact ⟨fun h => absurd h (sequencerStep_ne_refused _), nofun⟩
  | answerAlloc | reset => exact ⟨nofun, nofun⟩
  | pixWrite | pixRead | inWrite | inRead | outWrite | outRead =>
    rw [perform_barred rfl, ownMemory_eq_refused]
    simp [Event.barredWhileBusy]

theorem step_eq_refused :
    step s = .refused r ↔ r = .hostDutyBroken ∧ s.faultedBy = none ∧ s.busy = true ∧
      ∃ e rest, s.schedule = e :: rest ∧ e.barredWhileBusy = true := by
  cases hs : s.schedule with
  | nil => simp [step_idle_schedule s hs, sequencerStep_ne_refused]
  | cons e rest =>
    rw [step_event s e rest hs, perform_eq_refused]
    simp [State.busy]

/-- While not BUSY the host's access to its own memories is carried out (R61, R63, R64). -/
theorem step_hostAccess {e : Event} {rest : List Event} (hf : s.faultedBy = none) (hb : s.busy = false)
    (he : e.barredWhileBusy = true) (hs : s.schedule = e :: rest) :
    step s = .next (hostAccess e { s with schedule := rest }) := by
  rw [step_event s e rest hs, perform_barred he]
  obtain ⟨h, -⟩ | ⟨-, h, -⟩ | ⟨-, -, h⟩ := ownMemory_cases { s with schedule := rest } (hostAccess e)
  · exact absurd hf h
  · exact absurd (hb.symm.trans h) (by decide)
  · exact h

end

/-- Settles O55: what is refused, and the effect of each of the six accesses where it is not. -/
theorem onlyABrokenHostDutyIsRefused : Obligations.OnlyABrokenHostDutyIsRefused := by
  refine ⟨fun s r => step_eq_refused, fun i b v => ⟨rfl, rfl, rfl, rfl, rfl, rfl⟩, fun s i b v rest hf hb => ?_⟩
  refine ⟨fun hs => ⟨_, step_hostAccess hf hb rfl hs, rfl, ?_, fun p hp => ?_⟩,
    fun hs => ⟨_, step_hostAccess hf hb rfl hs, rfl, ?_, fun a ha => ?_⟩,
    fun hs => ⟨_, step_hostAccess hf hb rfl hs, rfl, ?_, fun a ha => ?_⟩,
    fun hs => (step_hostAccess hf hb rfl hs).trans ?_,
    fun hs => (step_hostAccess hf hb rfl hs).trans ?_,
    fun hs => (step_hostAccess hf hb rfl hs).trans ?_⟩
  · exact readPixel_writePixel_same s.pix i v
  · exact readPixel_writePixel_other s.pix i p v hp
  · exact read_write_same s.input i b
  · exact read_write_other s.input i a b ha
  · exact read_write_same s.output i b
  · exact read_write_other s.output i a b ha
  · exact congrArg _ (handOver_unfaulted _ hf)
  · exact congrArg _ (handOver_unfaulted _ hf)
  · exact congrArg _ (handOver_unfaulted _ hf)

/-! Reading the registers -/

section
variable (s : State)

/-- The fields of HDR_STAT and its reserved bits (R32). -/
theorem hdrStatWord_fields :
    (hdrStatWord s).extractLsb' 0 8 = s.hdr.version ∧ (hdrStatWord s).extractLsb' 8 3 = s.hdr.count ∧
    (hdrStatWord s).getLsbD 11 = s.hdr.complete ∧ (hdrStatWord s).getLsbD 12 = s.hdr.unsup ∧
    (hdrStatWord s).extractLsb' 13 3 = 0 ∧ (hdrStatWord s).extractLsb' 16 4 = s.hdr.hsize ∧
    (hdrStatWord s).extractLsb' 20 12 = 0 := by
  simp (disch := decide) only [hdrStatWord, BitVec.extractLsb'_append_eq_of_le,
    BitVec.extractLsb'_append_eq_of_add_le, BitVec.getLsbD_append]
  simp

/-- The counts, the direction and the reserved bits of PK_STAT (R33). -/
theorem pkStatWord_fields :
    (pkStatWord s).extractLsb' 0 3 = BitVec.ofNat 3 s.pk.q.length ∧ (pkStatWord s).getLsbD 3 = false ∧
    (pkStatWord s).extractLsb' 16 2 = pkModeBits s.pk.mode ∧ (pkStatWord s).extractLsb' 18 14 = 0 := by
  simp (disch := decide) only [pkStatWord, BitVec.extractLsb'_append_eq_of_le,
    BitVec.extractLsb'_append_eq_of_add_le, BitVec.getLsbD_append]
  simp [State.occ]

/-- The six pairs of PK_STAT, the oldest lowest (R33). -/
theorem pkStatWord_pair (j : Fin 6) : (pkStatWord s).extractLsb' (4 + 2 * j.val) 2 = s.pk.q.getD j.val 0 := by
  fin_cases j <;>
  · simp (disch := decide) only [pkStatWord, BitVec.extractLsb'_append_eq_of_le,
      BitVec.extractLsb'_append_eq_of_add_le]
    simp [pairOrZero]

/-- Word i of a bank of registers. -/
theorem bankWord_eq (v : Vector Word 5) (i : Fin 5) : bankWord v i.val = v[i] := by
  simp [bankWord, List.getD]

theorem seedByte_eq (x : SeedStage) (i : Nat) (hi : i < 16) : seedByte x i = x.buf[i] := by
  simp [seedByte, List.getD, hi]

/-- Byte j of a word of seed bytes stands in bits 8j+7 to 8j (R36). -/
theorem seedWord_byte (x : SeedStage) (w j : Fin 4) :
    (seedWord x w.val).extractLsb' (8 * j.val) 8 = x.buf[4 * w.val + j.val] := by
  rw [← seedByte_eq x]
  fin_cases j <;>
  · simp (disch := decide) only [seedWord, BitVec.extractLsb'_append_eq_of_le,
      BitVec.extractLsb'_append_eq_of_add_le]
    simp

/-- The banks of the shift registers and of the tap masks (R34, R37). -/
theorem csrValue_banks (i : Fin 5) :
    csrValue s (0x40 + 4 * i.val) = s.ks0.lfsr[i] ∧ csrValue s (0x40 + 4 * (5 + i.val)) = s.ks1.lfsr[i] ∧
      csrValue s (0x70 + 4 * i.val) = s.ks0.tap[i] ∧ csrValue s (0x70 + 4 * (5 + i.val)) = s.ks1.tap[i] := by
  simp only [← bankWord_eq]
  fin_cases i <;> exact ⟨rfl, rfl, rfl, rfl⟩

/-- The words of the two seed buffers (R36). -/
theorem csrValue_seedw (w : Fin 4) :
    csrValue s (0xA0 + 4 * w.val) = seedWord s.seed0 w.val ∧
      csrValue s (0xB0 + 4 * w.val) = seedWord s.seed1 w.val := by
  fin_cases w <;> exact ⟨rfl, rfl⟩

theorem seedStatWord_fields :
    (seedStatWord s).extractLsb' 0 5 = s.seed0.cnt ∧ (seedStatWord s).extractLsb' 5 3 = 0 ∧
    (seedStatWord s).extractLsb' 8 5 = s.seed1.cnt ∧ (seedStatWord s).extractLsb' 13 19 = 0 := by
  simp (disch := decide) only [seedStatWord, BitVec.extractLsb'_append_eq_of_le,
    BitVec.extractLsb'_append_eq_of_add_le]
  simp

theorem ctrlWord_fields : (ctrlWord s).getLsbD 0 = s.maskEn ∧ (ctrlWord s).extractLsb' 1 31 = 0 := by
  simp (disch := decide) only [ctrlWord, BitVec.extractLsb'_append_eq_of_le, BitVec.getLsbD_append]
  simp

theorem imgDimWord_fields :
    (imgDimWord s).extractLsb' 0 16 = s.width ∧ (imgDimWord s).extractLsb' 16 16 = s.height := by
  simp (disch := decide) only [imgDimWord, BitVec.extractLsb'_append_eq_of_le,
    BitVec.extractLsb'_append_eq_of_add_le]
  simp

/-- RESULT holds its byte over zeros (R29). -/
theorem resultWord_fields :
    (s.result.setWidth 32).extractLsb' 0 8 = s.result ∧ (s.result.setWidth 32).extractLsb' 8 24 = 0 := by
  constructor <;> refine BitVec.eq_of_getLsbD_eq fun i hi => ?_ <;>
    rw [BitVec.getLsbD_extractLsb', BitVec.getLsbD_setWidth]
  · simp [hi, Nat.lt_of_lt_of_le hi]
  · simp

/-- The reserved offsets read 0 (R23). -/
theorem csrValue_reserved {off : Nat} (ha : off % 4 = 0)
    (h : off ∈ [0x34, 0x38, 0x3C, 0x68, 0x6C, 0x98, 0x9C] ∨ 0xC0 ≤ off) : csrValue s off = 0 := by
  obtain h | h := h
  · simp only [List.mem_cons, List.not_mem_nil, or_false] at h
    obtain rfl | rfl | rfl | rfl | rfl | rfl | rfl := h <;> rfl
  · unfold csrValue
    repeat rw [if_neg (by omega)]

end

/-- Settles O13: HDR_STAT, HDR_SIZE and PK_STAT, field by field. -/
theorem headerAndPackerFieldsStandWhereTheMapPutsThem :
    Obligations.HeaderAndPackerFieldsStandWhereTheMapPutsThem := by
  intro s
  have hhdr : csrValue s 0x1C = hdrStatWord s := rfl
  have hpk : csrValue s 0x24 = pkStatWord s := rfl
  obtain ⟨hversion, hcount, hcomplete, hunsup, hlow, hhsize, hhigh⟩ := hdrStatWord_fields s
  obtain ⟨hocc, hbit, hmode, htop⟩ := pkStatWord_fields s
  rw [hhdr, hpk]
  refine ⟨hversion, hcount, hcomplete, hunsup, hlow, hhsize, hhigh, rfl, hocc, hbit, pkStatWord_pair s, ?_, htop⟩
  rw [hmode]
  cases s.pk.mode <;> rfl

/-- Settles O14: each offset names its word, and each word is read field by field. -/
theorem bankRegistersReadTheirElements : Obligations.BankRegistersReadTheirElements := by
  intro s
  obtain ⟨hcnt0, hgap, hcnt1, htop⟩ := seedStatWord_fields s
  obtain ⟨hmask, hctrl⟩ := ctrlWord_fields s
  obtain ⟨hresult, hzero⟩ := resultWord_fields s
  obtain ⟨hwidth, hheight⟩ := imgDimWord_fields s
  refine ⟨csrValue_banks s, fun w j => ?_, hcnt0, hgap, hcnt1, htop, rfl, rfl, hmask, hctrl, hresult, hzero, hwidth,
    hheight, rfl, rfl, rfl, fun off ha _ h => csrValue_reserved s ha h⟩
  obtain ⟨hseed0, hseed1⟩ := csrValue_seedw s w
  rw [hseed0, hseed1]
  exact ⟨seedWord_byte s.seed0 w j, seedWord_byte s.seed1 w j⟩

/-- Settles O60: each of the 64 offsets is read in the one state. -/
theorem registersReadZeroAfterReset : Obligations.RegistersReadZeroAfterReset := by
  unfold Obligations.RegistersReadZeroAfterReset
  decide

end Sys2Proof.Machine
end

section
/-! SUPPORT. The keystream commands (42_keystream.md R135 to R147) and HDR_NEW (41_header.md R113), and the statements
about them. -/

namespace Sys2Proof.Machine

/-! A keystream byte -/

/-- A bit shifted in becomes bit 0 and moves the others up (R140). -/
theorem shiftBit_getLsbD (b : Byte) (t : Bool) (j : Nat) (hj : j < 8) :
    ((b <<< 1) ||| zextBit t).getLsbD j = if j = 0 then t else b.getLsbD (j - 1) := by
  rw [BitVec.getLsbD_or, BitVec.getLsbD_shiftLeft]
  cases t <;> by_cases h0 : j = 0
  · simp [zextBit, h0]
  · simp [zextBit, h0, hj]
  · simp [zextBit, h0]
  · simp [zextBit, h0, hj]

/-- Bit j after n rounds: the tick of round n-1-j, or a bit of the byte before (R140). -/
theorem shiftIn_getLsbD (n : Nat) (b : Byte) (x : Keystream) (j : Nat) (hj : j < 8) :
    (Keystream.shiftIn n b x).1.getLsbD j =
      if j < n then (Keystream.tick^[n - 1 - j] x).tickBit else b.getLsbD (j - n) := by
  induction n generalizing b x with
  | zero => rfl
  | succ n ih =>
    rw [Keystream.shiftIn, ih]
    obtain hlt | rfl | hgt := Nat.lt_trichotomy j n
    · have hn : n + 1 - 1 - j = (n - 1 - j) + 1 := by omega
      rw [if_pos hlt, if_pos (by omega), hn, Function.iterate_succ_apply]
    · rw [if_neg (by omega), if_pos (by omega), shiftBit_getLsbD _ _ _ (by omega), if_pos (by omega)]
      simp
    · rw [if_neg (by omega), if_neg (by omega), shiftBit_getLsbD _ _ _ (by omega), if_neg (by omega)]
      congr 1

/-- Settles O21: eight rounds from the byte 0. -/
theorem keystreamByteIsEightTicksMsbFirst : Obligations.KeystreamByteIsEightTicksMsbFirst := by
  refine fun x => ⟨nextByte_snd x, fun n hn => ?_⟩
  have hindex : 8 - 1 - (7 - n) = n := by omega
  rw [Keystream.nextByte, shiftIn_getLsbD 8 0 x (7 - n) (by omega), if_pos (by omega), hindex]

/-! Drawing -/

section
variable {P : Config.Params} {k : KsId}

/-- A draw from an instance that runs the shift registers (R140). -/
theorem ksNextByte_lfsr (h : usesLegacy P k = false) (s : State) :
    ksNextByte P k s = ((s.ks k).nextByte.1, s.setKs k (s.ks k).nextByte.2) := by
  rw [ksNextByte, h]
  rfl

/-- A draw from instance 0 under KS0_ALGO = LEGACY (R141). -/
theorem ksNextByte_legacy (h : usesLegacy P k = true) (s : State) :
    ksNextByte P k s = (P.legacyKs s.lseed s.lpos, { s with lpos := s.lpos + 1 }) := by
  rw [ksNextByte, h]
  rfl

/-- Only instance 0 can be legacy (R141). -/
theorem usesLegacy_iff (P : Config.Params) (k : KsId) : usesLegacy P k = true ↔ k = .ks0 ∧ P.ks0Algo = .legacy := by
  cases k with
  | ks0 => simp [usesLegacy]
  | ks1 => simp [usesLegacy]

/-- Instances in equal states draw equal bytes for as long as one likes (R147). -/
theorem drawBytes_eq_of_ks_eq {j : KsId} (hk : usesLegacy P k = false) (hj : usesLegacy P j = false) (n : Nat)
    (s u : State) (h : s.ks k = u.ks j) : drawBytes P k n s = drawBytes P j n u := by
  induction n generalizing s u with
  | zero => rfl
  | succ n ih =>
    rw [drawBytes, drawBytes, ksNextByte_lfsr hk, ksNextByte_lfsr hj, h]
    refine congrArg _ (ih _ _ ?_)
    rw [setKs_ks, setKs_ks]

end

/-- Settles O26: equal seeds construct equal instances. -/
theorem equalSeedsGiveEqualByteSequences : Obligations.EqualSeedsGiveEqualByteSequences := by
  intro P s u n hlfsr hseed
  refine drawBytes_eq_of_ks_eq ?_ rfl n _ _ ?_
  · simp [usesLegacy, hlfsr]
  · rw [construct_ks, construct_ks, if_pos rfl, if_pos rfl]
    exact congrArg (fun buf => constructed P (P.seedSlice buf)) hseed

/-! The commands -/

section
variable (P : Config.Params) (k : KsId) (b : Byte) {s : State}

theorem seedReady_iff (s : State) (k : KsId) : s.seedReady k = true ↔ (s.seed k).cnt = 16 := by
  simp [State.seedReady]

theorem ksSeedEffect_ready (h : (s.seed k).cnt = 16) : ksSeedEffect P k s = succeed (construct P k s) :=
  if_pos ((seedReady_iff s k).mpr h)

theorem ksSeedEffect_not_ready (h : (s.seed k).cnt ≠ 16) : ksSeedEffect P k s = raiseError .invalidSeed s :=
  if_neg (mt (seedReady_iff s k).mp h)

theorem ksByteEffect_valid (h : (s.ks k).valid = true) :
    ksByteEffect P k s = succeed { (ksNextByte P k s).2 with result := (ksNextByte P k s).1 } := if_pos h

theorem ksXorEffect_valid (h : (s.ks k).valid = true) :
    ksXorEffect P k b s = succeed { (ksNextByte P k s).2 with result := b ^^^ (ksNextByte P k s).1 } := if_pos h

theorem ksByteEffect_not_valid (h : (s.ks k).valid = false) : ksByteEffect P k s = raiseError .ksNotSeeded s :=
  if_neg (by simp [h])

theorem ksXorEffect_not_valid (h : (s.ks k).valid = false) : ksXorEffect P k b s = raiseError .ksNotSeeded s :=
  if_neg (by simp [h])

/-- Construction's writes to LSEED and LPOS (R135, R141). -/
theorem construct_legacy (s : State) : ((construct P k s).lseed, (construct P k s).lpos) =
    if k = .ks0 ∧ P.ks0Algo = .legacy then (s.seed0.buf, 0) else (s.lseed, s.lpos) := by
  simp only [← usesLegacy_iff, construct, latchLegacy]
  split <;> cases k <;> rfl

@[simp] theorem constructed_lfsr (sl : Config.Slice) (i : Fin 5) :
    (constructed P sl).lfsr[i] = initialRegister sl i := by simp [constructed]

@[simp] theorem constructed_tap (sl : Config.Slice) (i : Fin 5) :
    (constructed P sl).tap[i] = P.tapTab i (sl.idx i) := by simp [constructed]

@[simp] theorem succeed_ks (s : State) : (succeed s).ks k = s.ks k := by cases k <;> rfl

end

/-- Settles O23. -/
theorem unseededInstanceYieldsNoByte : Obligations.UnseededInstanceYieldsNoByte := by
  intro k b s hs hv
  rw [exec_ready (.ksByte k) s rfl hs, exec_ready (.ksXor k b) s rfl hs]
  exact ⟨congrArg _ (ksByteEffect_not_valid _ k hv), congrArg _ (ksXorEffect_not_valid _ k b hv)⟩

/-- Settles O24: the two draws give one byte, and XOR with it twice is the identity. -/
theorem ksXorFromEqualStatesUnmasks : Obligations.KsXorFromEqualStatesUnmasks := by
  intro k b s t u v hs hu hv hks hseed hpos ht hx
  obtain ⟨hbyte, -, -⟩ := ksNextByte_congr Config.params k s u hks hseed hpos
  rw [exec_ready (.ksXor k b) s rfl hs] at ht
  have hsx := ksXorEffect_valid Config.params k b hv
  cases ht
  rw [exec_ready (.ksXor k _) u rfl hu] at hx
  cases hx
  change (ksXorEffect Config.params k (ksXorEffect Config.params k b s).result u).result = b
  rw [ksXorEffect_valid _ _ _ (hks ▸ hv), hsx]
  change b ^^^ (ksNextByte Config.params k s).1 ^^^ (ksNextByte Config.params k u).1 = b
  rw [hbyte, BitVec.xor_assoc, BitVec.xor_self, BitVec.xor_zero]

/-- Settles O19: 16 staged bytes construct the instance, and any other count is the error. -/
theorem ksSeedConstructsTheInstance : Obligations.KsSeedConstructsTheInstance := by
  intro k s hs
  rw [exec_ready (.ksSeed k) s rfl hs]
  refine ⟨fun hcnt => ?_, fun hcnt => congrArg _ (ksSeedEffect_not_ready _ k hcnt)⟩
  have hks := construct_ks Config.params k k s
  rw [if_pos rfl] at hks
  refine ⟨_, congrArg _ (ksSeedEffect_ready _ k hcnt), ?_, fun i => ?_, fun k' hk => ?_, construct_legacy _ k s, ?_⟩
  · rw [succeed_ks, hks]
    rfl
  · rw [succeed_ks, hks]
    exact ⟨constructed_lfsr _ _ i, constructed_tap _ _ i⟩
  · rw [succeed_ks, construct_ks, if_neg hk]
  · exact congrArg succeed (construct_frame Config.params k s)

/-- What KS_BIT can do (R143). -/
theorem ksBitEffect_cases (P : Config.Params) (k : KsId) (s : State) :
    ((k = .ks0 ∧ P.ks0Algo = .legacy) ∧ ksBitEffect P k s = raiseError .illegalCommand s) ∨
      (¬ (k = .ks0 ∧ P.ks0Algo = .legacy) ∧ (s.ks k).valid = false ∧
        ksBitEffect P k s = raiseError .ksNotSeeded s) ∨
      (¬ (k = .ks0 ∧ P.ks0Algo = .legacy) ∧ (s.ks k).valid = true ∧
        ksBitEffect P k s =
          succeed { s.setKs k (s.ks k).tick with result := zextBit (s.ks k).tickBit }) := by
  rw [← usesLegacy_iff]
  unfold ksBitEffect
  cases usesLegacy P k <;> cases (s.ks k).valid <;> simp

/-- A tick of the instance k, in the state after KS_BIT. -/
theorem ksBit_success_ks (s : State) (k j : KsId) :
    (succeed { s.setKs k (s.ks k).tick with result := zextBit (s.ks k).tickBit }).ks j =
      if j = k then (s.ks k).tick else s.ks j := by
  cases k <;> cases j <;> rfl

/-- Settles O20: the two refusals in their order, and else one tick of the instance. -/
theorem ksBitClocksEveryRegister : Obligations.KsBitClocksEveryRegister := by
  intro k s hs
  rw [exec_ready (.ksBit k) s rfl hs]
  obtain ⟨hl, h⟩ | ⟨hl, hv, h⟩ | ⟨hl, hv, h⟩ := ksBitEffect_cases Config.params k s <;>
    refine ⟨_, congrArg _ h, ?_⟩
  · rw [if_pos hl]
    rfl
  · rw [if_neg hl, if_pos hv]
    rfl
  · have htick := ksBit_success_ks s k k
    rw [if_pos rfl] at htick
    rw [if_neg hl, if_neg (by simp [hv]), htick]
    refine ⟨fun i => tick_lfsr _ i, rfl, rfl, hv, fun k' hk => ?_, ?_⟩
    · rw [ksBit_success_ks, if_neg hk]
    · cases k <;> rfl

/-- Settles O22. -/
theorem ksByteAndKsXorDrawOneByte : Obligations.KsByteAndKsXorDrawOneByte := by
  intro k b s hs hv
  refine ⟨_, (exec_ready (.ksByte k) s rfl hs).trans (congrArg _ (ksByteEffect_valid _ k hv)),
    (exec_ready (.ksXor k b) s rfl hs).trans (congrArg _ (ksXorEffect_valid _ k b hv)), ?_⟩
  split
  · next hl => rw [ksNextByte_legacy ((usesLegacy_iff _ k).mpr hl)]; rfl
  · next hl =>
    rw [ksNextByte_lfsr (by simpa using mt (usesLegacy_iff _ k).mp hl)]
    refine ⟨rfl, ?_, fun k' hk => ?_, ?_⟩
    · cases k <;> rfl
    · exact setKs_ks_other s k k' _ hk
    · cases k <;> rfl

/-! HDR_NEW -/

/-- The word of HDR_NEW (R83, R113). -/
theorem decode_hdrNew : decode 0x10000000 = .ok .hdrNew := decode_formatC 0x10 0 0

/-- Settles O27: in IDLE the empty header, elsewhere the gate's rejection. -/
theorem hdrNewEmptiesTheHeader : Obligations.HdrNewEmptiesTheHeader := by
  refine ⟨decode_hdrNew, fun s hs => exec_ready .hdrNew s rfl hs, fun s hf hp => ?_⟩
  have hgate : permitted .hdrNew s.plState = false := Bool.eq_false_iff.mpr (mt (permitted_iff _ _).mp (by simp [hp]))
  rw [exec_eq_submit .hdrNew s rfl, submit_not_permitted _ s _ hf hgate]
  rfl

end Sys2Proof.Machine
end

section
/-! SUPPORT. The pixel packer (43_pixel_packer.md R161 to R172): pixel words and their pairs, what draining, flushing
and filling make of PIX and of the pair buffer, and the statements about the packer's commands. -/

namespace Sys2Proof.Machine

/-! Pixel words -/

/-- A channel with its low pair replaced (R161). -/
def mergeChannel (c : Byte) (p : Pair) : Byte := (c &&& 0xFC) ||| p.setWidth 8

theorem mergeChannel_low (c : Byte) (p : Pair) : (mergeChannel c p).extractLsb' 0 2 = p := by
  refine BitVec.eq_of_getLsbD_eq fun i hi => ?_
  have hmask : (252#8).getLsbD i = false := by interval_cases i <;> rfl
  have hwidth : i < 8 := by omega
  simp [mergeChannel, -BitVec.getLsbD_eq_getElem, hmask, hi, hwidth]

theorem mergeChannel_getLsbD (c : Byte) (p : Pair) (i : Nat) (h2 : 2 ≤ i) (h8 : i < 8) :
    (mergeChannel c p).getLsbD i = c.getLsbD i := by
  have hmask : (0xFC : Byte).getLsbD i = true := by interval_cases i <;> rfl
  rw [mergeChannel, BitVec.getLsbD_or, BitVec.getLsbD_and, BitVec.getLsbD_setWidth, hmask, BitVec.getLsbD_of_ge p i h2]
  simp

section
variable (v : Word) (p0 p1 p2 : Pair)

/-- PixMerge merges a pair into each of R, G and B, and keeps alpha (R161). -/
theorem pixMerge_eq : pixMerge v p0 p1 p2 = mergeChannel (v.extractLsb' 24 8) p0 ++
    mergeChannel (v.extractLsb' 16 8) p1 ++ mergeChannel (v.extractLsb' 8 8) p2 ++ v.extractLsb' 0 8 := rfl

/-- PixMerge leaves every bit outside the three low pairs (R161). -/
theorem pixMerge_getLsbD (i : Nat) (hi : i < 32)
    (h : i ≠ 8 ∧ i ≠ 9 ∧ i ≠ 16 ∧ i ≠ 17 ∧ i ≠ 24 ∧ i ≠ 25) : (pixMerge v p0 p1 p2).getLsbD i = v.getLsbD i := by
  rw [pixMerge_eq, BitVec.getLsbD_append, BitVec.getLsbD_append, BitVec.getLsbD_append]
  split_ifs
  · rw [BitVec.getLsbD_extractLsb', decide_eq_true (by omega : i < 8), Bool.true_and, Nat.zero_add]
  all_goals
    rw [mergeChannel_getLsbD _ _ _ (by omega) (by omega), BitVec.getLsbD_extractLsb', decide_eq_true (by omega),
      Bool.true_and]
    congr 1
    omega

/-- PixPairs reads back the pairs of PixMerge (R161, R162). -/
theorem pixPairs_pixMerge : pixPairs (pixMerge v p0 p1 p2) = [p0, p1, p2] := by
  simp (disch := decide) only [pixPairs, pixMerge_eq, BitVec.extractLsb'_append_eq_of_le,
    BitVec.extractLsb'_append_eq_of_add_le, Nat.reduceSub, mergeChannel_low]

/-- PixMerge changes only what the mask 0xFCFCFCFF leaves out (R172). -/
theorem pixMerge_and_high : pixMerge v p0 p1 p2 &&& 0xFCFCFCFF = v &&& 0xFCFCFCFF := by
  refine BitVec.eq_of_getLsbD_eq fun i hi => ?_
  rw [BitVec.getLsbD_and, BitVec.getLsbD_and]
  by_cases h : i ≠ 8 ∧ i ≠ 9 ∧ i ≠ 16 ∧ i ≠ 17 ∧ i ≠ 24 ∧ i ≠ 25
  · rw [pixMerge_getLsbD v p0 p1 p2 i hi h]
  · have hmask : (0xFCFCFCFF : Word).getLsbD i = false := by
      obtain rfl | rfl | rfl | rfl | rfl | rfl :
        i = 8 ∨ i = 9 ∨ i = 16 ∨ i = 17 ∨ i = 24 ∨ i = 25 := by omega
      all_goals rfl
    rw [hmask, Bool.and_false, Bool.and_false]

end

/-- Settles O37. -/
theorem pixMergeChangesOnlyTheLowPairs : Obligations.PixMergeChangesOnlyTheLowPairs :=
  fun v p0 p1 p2 => ⟨fun i hi h8 h9 h16 h17 h24 h25 =>
    pixMerge_getLsbD v p0 p1 p2 i hi ⟨h8, h9, h16, h17, h24, h25⟩, rfl, pixPairs_pixMerge v p0 p1 p2⟩

/-! Pixels and bytes of PIX -/

/-- A pixel is its four bytes. -/
theorem readPixel_congr {m m' : Memory} {p : Nat} (h : ∀ a, 4 * p ≤ a → a < 4 * p + 4 → m'.read a = m.read a) :
    m'.readPixel p = m.readPixel p := by
  unfold Memory.readPixel
  rw [h _ le_rfl (by omega), h _ (by omega) (by omega), h _ (by omega) (by omega), h _ (by omega) (by omega)]

theorem readPixel_writePairs_same (m : Memory) (idx : Word) (p0 p1 p2 : Pair) :
    (writePairs m idx p0 p1 p2).readPixel idx.toNat = pixMerge (m.readPixel idx.toNat) p0 p1 p2 :=
  readPixel_writePixel_same ..

theorem readPixel_writePairs_other (m : Memory) (idx : Word) (p0 p1 p2 : Pair) {p : Nat} (h : p ≠ idx.toNat) :
    (writePairs m idx p0 p1 p2).readPixel p = m.readPixel p :=
  readPixel_writePixel_other _ _ _ _ h

theorem read_writePairs_outside (m : Memory) (idx : Word) (p0 p1 p2 : Pair) {a : Nat}
    (h : a < 4 * idx.toNat ∨ 4 * idx.toNat + 4 ≤ a) : (writePairs m idx p0 p1 p2).read a = m.read a :=
  read_writePixel_outside _ _ _ _ h

/-- W*H has at most 32 bits (R30, R181). -/
theorem npix_lt (s : State) : s.npix < 2 ^ 32 := by
  have hw := s.width.isLt
  have hh := s.height.isLt
  unfold State.npix
  nlinarith

/-- A pixel index that stays below the last word does not wrap. -/
theorem toNat_add_ofNat {x : Word} {n : Nat} (h : x.toNat + n < 2 ^ 32) :
    (x + BitVec.ofNat 32 n).toNat = x.toNat + n := by
  rw [BitVec.toNat_add, BitVec.toNat_ofNat, Nat.add_mod_mod, Nat.mod_eq_of_lt h]

/-! Draining -/

section
variable (q : List Pair) (idx : Word) (m : Memory)

/-- Draining writes no byte outside the pixels it fills (R163). -/
theorem drainPairs_read_outside (h : idx.toNat + q.length / 3 < 2 ^ 32) {a : Nat}
    (ha : a < 4 * idx.toNat ∨ 4 * (idx.toNat + q.length / 3) ≤ a) : (drainPairs q idx m).mem.read a = m.read a := by
  induction q, idx, m using drainPairs.induct with
  | case1 idx m p0 p1 p2 rest ih =>
    have hlen : (p0 :: p1 :: p2 :: rest).length / 3 = rest.length / 3 + 1 := by simp; omega
    rw [hlen] at h ha
    have hidx : (idx + 1).toNat = idx.toNat + 1 := toNat_add_ofNat (n := 1) (by omega)
    rw [drainPairs, ih (by omega) (by omega), read_writePairs_outside _ _ _ _ _ (by omega)]
  | case2 => rfl
  | case3 => rfl
  | case4 => rfl

/-- The pixels outside are as before. -/
theorem drainPairs_readPixel_outside (h : idx.toNat + q.length / 3 < 2 ^ 32) {p : Nat}
    (hp : p < idx.toNat ∨ idx.toNat + q.length / 3 ≤ p) :
    (drainPairs q idx m).mem.readPixel p = m.readPixel p :=
  readPixel_congr fun a _ _ => drainPairs_read_outside q idx m h (by omega)

/-- Draining merges three pairs into each pixel it fills, the oldest first (R163). -/
theorem drainPairs_readPixel (h : idx.toNat + q.length / 3 < 2 ^ 32) {n : Nat} (hn : n < q.length / 3) :
    (drainPairs q idx m).mem.readPixel (idx.toNat + n) =
      pixMerge (m.readPixel (idx.toNat + n)) (q.getD (3 * n) 0) (q.getD (3 * n + 1) 0) (q.getD (3 * n + 2) 0) := by
  induction q, idx, m using drainPairs.induct generalizing n with
  | case1 idx m p0 p1 p2 rest ih =>
    have hlen : (p0 :: p1 :: p2 :: rest).length / 3 = rest.length / 3 + 1 := by simp; omega
    rw [hlen] at h hn
    have hidx : (idx + 1).toNat = idx.toNat + 1 := toNat_add_ofNat (n := 1) (by omega)
    rw [drainPairs]
    cases n with
    | zero =>
      rw [drainPairs_readPixel_outside _ _ _ (by omega) (by omega)]
      exact readPixel_writePairs_same m idx p0 p1 p2
    | succ n =>
      have hnext : idx.toNat + (n + 1) = (idx + 1).toNat + n := by omega
      rw [hnext, ih (by omega) (by omega), readPixel_writePairs_other _ _ _ _ _ (by omega)]
      rfl
  | case2 => simp at hn
  | case3 => simp at hn
  | case4 => simp at hn

end

/-! Flushing -/

section
variable (q : List Pair) (idx : Word) (m : Memory)

/-- Flushing writes no byte outside the one pixel it may write (R164). -/
theorem flushPairs_read_outside {a : Nat} (ha : a < 4 * idx.toNat ∨ 4 * (idx.toNat + needFlush q.length) ≤ a) :
    (flushPairs q idx m).mem.read a = m.read a := by
  cases q with
  | nil => rfl
  | cons p0 rest =>
    have hneed : needFlush (p0 :: rest).length = 1 := if_pos (Nat.succ_pos _)
    rw [hneed] at ha
    match rest with
    | [] => exact read_writePairs_outside _ _ _ _ _ (by omega)
    | [p1] => exact read_writePairs_outside _ _ _ _ _ (by omega)
    | p1 :: p2 :: _ => exact read_writePairs_outside _ _ _ _ _ (by omega)

/-- The last partial pixel is padded with zero pairs (R164). -/
theorem flushPairs_readPixel (hq : q ≠ []) (hl : q.length ≤ 2) :
    (flushPairs q idx m).mem.readPixel idx.toNat =
      pixMerge (m.readPixel idx.toNat) (q.getD 0 0) (q.getD 1 0) 0 := by
  match q with
  | [] => exact absurd rfl hq
  | [p0] => exact readPixel_writePairs_same m idx p0 0 0
  | [p0, p1] => exact readPixel_writePairs_same m idx p0 p1 0
  | p0 :: p1 :: p2 :: rest => simp at hl

end

/-! Filling -/

/-- The pairs of n pixels from an index on, R then G then B (R162, R165). -/
def pixelPairs (m : Memory) (p n : Nat) : List Pair := (List.range n).flatMap fun i => pixPairs (m.readPixel (p + i))

/-- Filling appends the pairs of the `need_dec` pixels it reads (R165, R167). -/
theorem filled_q (s : State) (h : s.pk.pixIdx.toNat + needDec s.occ < 2 ^ 32) :
    s.filled.q = s.pk.q ++ pixelPairs s.pix s.pk.pixIdx.toNat (needDec s.occ) := by
  unfold State.filled needDec State.occ at *
  by_cases h4 : 4 ≤ s.pk.q.length
  · simp [fillPairs, h4, Nat.not_lt.mpr h4, pixelPairs]
  · by_cases h1 : 4 ≤ s.pk.q.length + 3
    · simp [fillPairs, h4, h1, Nat.not_le.mp h4, pixPairs, Nat.not_lt.mpr h1, pixelPairs]
    · have h5 : s.pk.q.length + 3 < 4 := by omega
      rw [if_neg h4, if_neg h1] at h
      have hidx : (s.pk.pixIdx + 1#32).toNat = s.pk.pixIdx.toNat + 1 := toNat_add_ofNat (n := 1) (by omega)
      simp [fillPairs, h4, h1, h5, Nat.not_le.mp h4, pixPairs, pixelPairs, List.range_succ, hidx,
        -BitVec.toNat_add]

/-! The packer's functions -/

section
variable (b : Byte) (s : State)

@[simp] theorem pairsOfByte_length : (pairsOfByte b).length = 4 := rfl

/-- Byte and buffer fill `need_enc` pixels (R167). -/
theorem length_append_pairsOfByte : (s.pk.q ++ pairsOfByte b).length / 3 = needEnc s.occ := by
  rw [List.length_append, pairsOfByte_length]
  rfl

/-- The packer after PkEncByte (R163). -/
theorem pkEncByte_pk : (pkEncByte b s).pk = { s.pk with
    q := (s.pk.q ++ pairsOfByte b).drop (3 * needEnc s.occ)
    pixIdx := s.pk.pixIdx + BitVec.ofNat 32 (needEnc s.occ) } := by
  obtain ⟨hq, hidx⟩ := drainPairs_counts (s.pk.q ++ pairsOfByte b) s.pk.pixIdx s.pix
  rw [length_append_pairsOfByte] at hq hidx
  rw [pkEncByte, withFlow_pk, hq, hidx]

/-- PkEncByte writes PIX and the packer alone. -/
theorem pkEncByte_frame : pkEncByte b s = { s with pk := (pkEncByte b s).pk, pix := (pkEncByte b s).pix } := rfl

/-- The packer after PkEncFlush (R164). -/
theorem pkEncFlush_pk : (pkEncFlush s).pk = { s.pk with
    q := [], pixIdx := s.pk.pixIdx + BitVec.ofNat 32 (needFlush s.occ) } := by
  obtain ⟨hq, hidx⟩ := flushPairs_counts s.pk.q s.pk.pixIdx s.pix
  rw [pkEncFlush, withFlow_pk, hq, hidx]
  rfl

/-- PkEncFlush writes PIX and the packer alone. -/
theorem pkEncFlush_frame : pkEncFlush s = { s with pk := (pkEncFlush s).pk, pix := (pkEncFlush s).pix } := rfl

end

section
variable {s : State} {b : Byte}

/-- PkEncByte writes no byte of PIX outside the pixels it fills. -/
theorem pkEncByte_read_outside (h : s.pk.pixIdx.toNat + needEnc s.occ ≤ s.npix) {a : Nat}
    (ha : a < 4 * s.pk.pixIdx.toNat ∨ 4 * (s.pk.pixIdx.toNat + needEnc s.occ) ≤ a) :
    (pkEncByte b s).pix.read a = s.pix.read a := by
  have hlen := length_append_pairsOfByte b s
  have hnpix := npix_lt s
  exact drainPairs_read_outside _ _ _ (by omega) (by omega)

theorem pkEncByte_readPixel_outside (h : s.pk.pixIdx.toNat + needEnc s.occ ≤ s.npix) {p : Nat}
    (hp : p < s.pk.pixIdx.toNat ∨ s.pk.pixIdx.toNat + needEnc s.occ ≤ p) :
    (pkEncByte b s).pix.readPixel p = s.pix.readPixel p :=
  readPixel_congr fun a _ _ => pkEncByte_read_outside h (by omega)

/-- PkEncByte merges three pairs into each pixel it fills. -/
theorem pkEncByte_readPixel (h : s.pk.pixIdx.toNat + needEnc s.occ ≤ s.npix) {n : Nat} (hn : n < needEnc s.occ) :
    (pkEncByte b s).pix.readPixel (s.pk.pixIdx.toNat + n) =
      pixMerge (s.pix.readPixel (s.pk.pixIdx.toNat + n)) ((s.pk.q ++ pairsOfByte b).getD (3 * n) 0)
        ((s.pk.q ++ pairsOfByte b).getD (3 * n + 1) 0) ((s.pk.q ++ pairsOfByte b).getD (3 * n + 2) 0) := by
  have hlen := length_append_pairsOfByte b s
  have hnpix := npix_lt s
  exact drainPairs_readPixel _ _ _ (by omega) (by omega)

/-- PkEncFlush writes no byte of PIX outside the pixel it may fill. -/
theorem pkEncFlush_read_outside {a : Nat}
    (ha : a < 4 * s.pk.pixIdx.toNat ∨ 4 * (s.pk.pixIdx.toNat + needFlush s.occ) ≤ a) :
    (pkEncFlush s).pix.read a = s.pix.read a :=
  flushPairs_read_outside _ _ _ ha

/-- PkEncFlush pads the last partial pixel with zero pairs. -/
theorem pkEncFlush_readPixel (hq : s.pk.q ≠ []) (hocc : s.occ ≤ 2) :
    (pkEncFlush s).pix.readPixel s.pk.pixIdx.toNat =
      pixMerge (s.pix.readPixel s.pk.pixIdx.toNat) (s.pk.q.getD 0 0) (s.pk.q.getD 1 0) 0 :=
  flushPairs_readPixel s.pk.q s.pk.pixIdx s.pix hq hocc

theorem pkEncFlush_readPixel_outside {p : Nat}
    (hp : p < s.pk.pixIdx.toNat ∨ s.pk.pixIdx.toNat + needFlush s.occ ≤ p) :
    (pkEncFlush s).pix.readPixel p = s.pix.readPixel p :=
  readPixel_congr fun a _ _ => pkEncFlush_read_outside (by omega)

end

/-! The commands -/

theorem wrongWay_enc (m : PkMode) : wrongWay .enc m = decide (m = .dec) := by cases m <;> rfl

theorem wrongWay_dec (m : PkMode) : wrongWay .dec m = decide (m = .enc) := by cases m <;> rfl

section
variable {d : PkMode} {n : Nat} {f : State → State} {s : State}

theorem packerEffect_wrongWay (h : wrongWay d s.pk.mode = true) : packerEffect d n f s = raiseError .pkDirection s :=
  if_pos h

theorem packerEffect_outside (hd : wrongWay d s.pk.mode = false) (h : s.npix < s.pk.pixIdx.toNat + n) :
    packerEffect d n f s = raiseError .pixelRange s := by
  simp [packerEffect, hd, State.pixelsExist, Nat.not_le.mpr h]

theorem packerEffect_inside (hd : wrongWay d s.pk.mode = false) (h : s.pk.pixIdx.toNat + n ≤ s.npix) :
    packerEffect d n f s = succeed { f s with pk := { (f s).pk with mode := d } } := by
  simp [packerEffect, hd, State.pixelsExist, h]

end

/-- Settles O33: both checks pass, and the packer's function drains into the next pixels. -/
theorem pkEncByteWritesTheNextPixels : Obligations.PkEncByteWritesTheNextPixels := by
  intro b s hs hmode _ hrange
  have hnpix := npix_lt s
  have hway : wrongWay .enc s.pk.mode = false := by simp [wrongWay_enc, hmode]
  refine ⟨_, (exec_ready (.pkEncByte b) s rfl hs).trans (congrArg _ (packerEffect_inside hway hrange)), rfl, rfl,
    ?_, ?_, fun n hn => pkEncByte_readPixel hrange hn, fun a ha => pkEncByte_read_outside hrange ha⟩
  · change (pkEncByte b s).pk.pixIdx.toNat = _
    rw [pkEncByte_pk]
    exact toNat_add_ofNat (lt_of_le_of_lt hrange hnpix)
  · change (pkEncByte b s).pk.q = _
    rw [pkEncByte_pk]

/-- Settles O34. -/
theorem pkEncFlushWritesTheLastPixel : Obligations.PkEncFlushWritesTheLastPixel := by
  intro s hs hmode hocc hrange
  have hnpix := npix_lt s
  have hway : wrongWay .enc s.pk.mode = false := by simp [wrongWay_enc, hmode]
  refine ⟨_, (exec_ready .pkEncFlush s rfl hs).trans (congrArg _ (packerEffect_inside hway hrange)), rfl, rfl,
    ?_, ?_,    fun hq => pkEncFlush_readPixel hq hocc, fun a ha => pkEncFlush_read_outside ha⟩
  · change (pkEncFlush s).pk.q = _
    rw [pkEncFlush_pk]
  · change (pkEncFlush s).pk.pixIdx.toNat = _
    rw [pkEncFlush_pk]
    exact toNat_add_ofNat (lt_of_le_of_lt hrange hnpix)

/-- The byte of four pairs is the pairs side by side (R165). -/
theorem byteOfPairs_eq_append (q0 q1 q2 q3 : Pair) : byteOfPairs q0 q1 q2 q3 = q0 ++ q1 ++ q2 ++ q3 := by
  refine BitVec.eq_of_getLsbD_eq fun i hi => ?_
  simp only [byteOfPairs, BitVec.getLsbD_or, BitVec.getLsbD_append, BitVec.getLsbD_setWidth, BitVec.getLsbD_shiftLeft]
  grind

/-- The byte of four pairs holds each in its place (R165). -/
theorem byteOfPairs_pairs (q0 q1 q2 q3 : Pair) :
    (byteOfPairs q0 q1 q2 q3).extractLsb' 6 2 = q0 ∧ (byteOfPairs q0 q1 q2 q3).extractLsb' 4 2 = q1 ∧
    (byteOfPairs q0 q1 q2 q3).extractLsb' 2 2 = q2 ∧ (byteOfPairs q0 q1 q2 q3).extractLsb' 0 2 = q3 := by
  simp (disch := decide) only [byteOfPairs_eq_append, BitVec.extractLsb'_append_eq_of_le,
    BitVec.extractLsb'_append_eq_of_add_le]
  simp

/-- The byte of a buffer of at least four pairs. -/
theorem headByte_eq (q : List Pair) (h : 4 ≤ q.length) :
    headByte q = byteOfPairs (q.getD 0 0) (q.getD 1 0) (q.getD 2 0) (q.getD 3 0) := by
  match q with
  | q0 :: q1 :: q2 :: q3 :: _ => rfl
  | [] | [_] | [_, _] | [_, _, _] => simp at h

/-- With the needed pixels read, a byte's four pairs are there (R165, R167). -/
theorem four_le_filled (s : State) : 4 ≤ s.filled.q.length := by
  obtain ⟨-, -, hlen⟩ := filled_counts s
  rw [hlen, needDec]
  split_ifs <;> omega

/-- Settles O35. -/
theorem pkDecByteReadsTheNextPixels : Obligations.PkDecByteReadsTheNextPixels := by
  intro s hs hmode _ hrange
  have hnpix := npix_lt s
  have hway : wrongWay .dec s.pk.mode = false := by simp [wrongWay_dec, hmode]
  have hfilled := filled_q s (lt_of_le_of_lt hrange hnpix)
  have hpk := pkDecByte_snd s
  have heffect := packerEffect_inside (f := fun s => { (pkDecByte s).2 with result := (pkDecByte s).1 }) hway hrange
  refine ⟨_, (exec_ready .pkDecByte s rfl hs).trans (congrArg _ heffect), ?_, rfl, ?_, ?_⟩
  · simp only [hpk]
    rfl
  · simp only [hpk]
    exact toNat_add_ofNat (lt_of_le_of_lt hrange hnpix)
  · change (pkDecByte s).2.pk.q = _ ∧ (headByte s.filled.q).extractLsb' 6 2 = _ ∧
      (headByte s.filled.q).extractLsb' 4 2 = _ ∧ (headByte s.filled.q).extractLsb' 2 2 = _ ∧
      (headByte s.filled.q).extractLsb' 0 2 = _
    rw [hpk, headByte_eq _ (four_le_filled s), hfilled]
    exact ⟨rfl, byteOfPairs_pairs _ _ _ _⟩

/-- Settles O36: the direction is checked first, then the pixels. -/
theorem packerErrorsChangeOnlyCode : Obligations.PackerErrorsChangeOnlyCode := by
  intro b s hs
  rw [exec_ready (.pkEncByte b) s rfl hs, exec_ready .pkEncFlush s rfl hs, exec_ready .pkDecByte s rfl hs]
  simp only [commandEffect]
  have henc : s.pk.mode ≠ .dec → wrongWay .enc s.pk.mode = false := fun h => by simp [wrongWay_enc, h]
  have hdec : s.pk.mode ≠ .enc → wrongWay .dec s.pk.mode = false := fun h => by simp [wrongWay_dec, h]
  refine ⟨fun h => ⟨congrArg _ (packerEffect_wrongWay (by rw [h]; rfl)),
      congrArg _ (packerEffect_wrongWay (by rw [h]; rfl))⟩,
    fun h => congrArg _ (packerEffect_wrongWay (by rw [h]; rfl)),
    fun h hr => congrArg _ (packerEffect_outside (henc h) hr),
    fun h ho hr => congrArg _ (packerEffect_outside (henc h) ?_),
    fun h ho hr => congrArg _ (packerEffect_outside (henc h) ?_),
    fun h hr => congrArg _ (packerEffect_outside (hdec h) hr)⟩
  · rw [needFlush, if_pos ho]
    exact hr
  · rw [needFlush, ho]
    exact hr

end Sys2Proof.Machine
end

section
/-! SUPPORT. Bytes as a stream of pairs laid over the pixels (43_pixel_packer.md R172): where a packer stands that has
packed or unpacked n bytes of a stream, and the statements about whole runs of it. -/

namespace Sys2Proof.Machine

/-! Pairs of a stream and pairs of an image -/

/-- Pair i of a stream of bytes: four to a byte, the most significant first (R67, R163). -/
def streamPair (c : Nat → Byte) (i : Nat) : Pair := (pairsOfByte (c (i / 4))).getD (i % 4) 0

/-- Pair i of an image: three to a pixel, R then G then B (R162). -/
def imagePair (m : Memory) (i : Nat) : Pair := (pixPairs (m.readPixel (i / 3))).getD (i % 3) 0

/-- A byte of a stream is four of its pairs. -/
theorem pairsOfByte_eq_stream (c : Nat → Byte) (n : Nat) :
    pairsOfByte (c n) = (List.range' (4 * n) 4).map (streamPair c) := by
  have hdiv : ∀ j < 4, (4 * n + j) / 4 = n := fun j hj => by omega
  have hmod : ∀ j < 4, (4 * n + j) % 4 = j := fun j hj => by omega
  have hpair : ∀ j < 4, streamPair c (4 * n + j) = (pairsOfByte (c n)).getD j 0 := fun j hj => by
    rw [streamPair, hdiv j hj, hmod j hj]
  simp only [List.range', List.map_cons, List.map_nil, add_assoc, Nat.reduceAdd]
  rw [hpair 1 (by omega), hpair 2 (by omega), hpair 3 (by omega)]
  exact congrArg (· :: _) (hpair 0 (by omega)).symm

/-- A byte of a stream from its four pairs. -/
theorem byteOfPairs_stream (c : Nat → Byte) (n : Nat) :
    byteOfPairs (streamPair c (4 * n)) (streamPair c (4 * n + 1)) (streamPair c (4 * n + 2))
      (streamPair c (4 * n + 3)) = c n := by
  have h := pairsOfByte_eq_stream c n
  simp only [List.range', List.map_cons, List.map_nil, add_assoc, Nat.reduceAdd, pairsOfByte, List.cons.injEq] at h
  obtain ⟨h0, h1, h2, h3, -⟩ := h
  rw [← h0, ← h1, ← h2, ← h3, byteOfPairs_eq_append]
  simp only [BitVec.extractLsb'_append_extractLsb'_eq_extractLsb', BitVec.extractLsb'_eq_self]

/-- The pairs of consecutive pixels. -/
theorem pixelPairs_eq_image (m : Memory) (p n : Nat) :
    pixelPairs m p n = (List.range' (3 * p) (3 * n)).map (imagePair m) := by
  have hpixel : ∀ p, pixPairs (m.readPixel p) = (List.range' (3 * p) 3).map (imagePair m) := fun p => by
    have hpair : ∀ j < 3, imagePair m (3 * p + j) = (pixPairs (m.readPixel p)).getD j 0 := fun j hj => by
      rw [imagePair, (by omega : (3 * p + j) / 3 = p), (by omega : (3 * p + j) % 3 = j)]
    simp only [List.range', List.map_cons, List.map_nil, add_assoc, Nat.reduceAdd]
    rw [hpair 1 (by omega), hpair 2 (by omega)]
    exact congrArg (· :: _) (hpair 0 (by omega)).symm
  induction n with
  | zero => rfl
  | succ n ih =>
    rw [pixelPairs, List.range_succ, List.flatMap_append, ← pixelPairs, ih, List.flatMap_singleton, hpixel,
      ← List.map_append, Nat.mul_add, Nat.mul_add, List.range'_append_1]

/-- A pixel that is read alike has the same pairs. -/
theorem imagePair_congr {m m' : Memory} {i : Nat} (h : m'.readPixel (i / 3) = m.readPixel (i / 3)) :
    imagePair m' i = imagePair m i := by
  rw [imagePair, h, imagePair]

/-- The pairs of a merged pixel. -/
theorem imagePair_of_pixMerge {m : Memory} {v : Word} {i : Nat} {q : List Pair} {j : Nat}
    (h : m.readPixel (i / 3) = pixMerge v (q.getD (3 * j) 0) (q.getD (3 * j + 1) 0) (q.getD (3 * j + 2) 0)) :
    imagePair m i = q.getD (3 * j + i % 3) 0 := by
  rw [imagePair, h, pixPairs_pixMerge]
  have hmod : i % 3 < 3 := Nat.mod_lt _ (by omega)
  interval_cases i % 3 <;> rfl

/-! Packing a stream -/

/-- A packer that has packed the first n bytes of a stream: their pairs stand in the pixels before PK.PIX_IDX, and
the last ones in the buffer (R172). -/
structure Packed (c : Nat → Byte) (n : Nat) (s : State) : Prop where
  position : 3 * s.pk.pixIdx.toNat + s.occ = 4 * n
  occ : s.occ ≤ 2
  buffered : s.pk.q = (List.range' (3 * s.pk.pixIdx.toNat) s.occ).map (streamPair c)
  written : ∀ i < 3 * s.pk.pixIdx.toNat, imagePair s.pix i = streamPair c i

section
variable {c : Nat → Byte} {n : Nat} {s : State}

theorem packed_fresh (h : s.pk.pixIdx = 0) (hq : s.pk.q = []) : Packed c 0 s where
  position := by simp [h, hq, State.occ]
  occ := by simp [hq, State.occ]
  buffered := by simp [hq, State.occ]
  written := by simp [h]

/-- The buffer with a byte's pairs is a piece of the stream. -/
theorem Packed.buffer_append (h : Packed c n s) :
    s.pk.q ++ pairsOfByte (c n) = (List.range' (3 * s.pk.pixIdx.toNat) (s.occ + 4)).map (streamPair c) := by
  rw [pairsOfByte_eq_stream, h.buffered, ← List.map_append, ← h.position, List.range'_append_1]

theorem getD_map_range' (f : Nat → Pair) (a len j : Nat) (hj : j < len) :
    ((List.range' a len).map f).getD j 0 = f (a + j) := by
  simp [List.getD, hj]

/-- One more byte packed (R163). -/
theorem Packed.pkEncByte (h : Packed c n s) (hrange : s.pk.pixIdx.toNat + needEnc s.occ ≤ s.npix) :
    Packed c (n + 1) (pkEncByte (c n) s) := by
  have hnpix := npix_lt s
  have hpos := h.position
  have hpk := pkEncByte_pk (c n) s
  have hidx : (Machine.pkEncByte (c n) s).pk.pixIdx.toNat = s.pk.pixIdx.toNat + needEnc s.occ := by
    rw [hpk]
    exact toNat_add_ofNat (lt_of_le_of_lt hrange hnpix)
  have hq : (Machine.pkEncByte (c n) s).pk.q = (List.range' (3 * (s.pk.pixIdx.toNat + needEnc s.occ))
      (s.occ + 4 - 3 * needEnc s.occ)).map (streamPair c) := by
    rw [hpk]
    change (s.pk.q ++ pairsOfByte (c n)).drop _ = _
    rw [h.buffer_append, ← List.map_drop, List.drop_range', Nat.mul_add]
    simp
  have hocc : (Machine.pkEncByte (c n) s).occ = s.occ + 4 - 3 * needEnc s.occ := by
    rw [State.occ, hq, List.length_map, List.length_range']
  have hneed : 3 * needEnc s.occ ≤ s.occ + 4 ∧ s.occ + 4 - 3 * needEnc s.occ ≤ 2 := by
    unfold needEnc
    omega
  refine ⟨?_, ?_, ?_, fun i hi => ?_⟩
  · rw [hidx, hocc]
    omega
  · rw [hocc]
    omega
  · rw [hq, hidx, hocc]
  · rw [hidx] at hi
    by_cases hlt : i < 3 * s.pk.pixIdx.toNat
    · rw [imagePair_congr (pkEncByte_readPixel_outside hrange (by omega)), h.written i hlt]
    · obtain ⟨j, hj⟩ : ∃ j, i / 3 = s.pk.pixIdx.toNat + j := ⟨i / 3 - s.pk.pixIdx.toNat, by omega⟩
      have hpixel := pkEncByte_readPixel (b := c n) hrange (n := j) (by omega)
      rw [← hj] at hpixel
      rw [imagePair_of_pixMerge hpixel, h.buffer_append, getD_map_range' _ _ _ _ (by omega)]
      congr 1
      omega

/-- Flushing puts the last pairs in the image (R164). -/
theorem Packed.pkEncFlush (h : Packed c n s) : ∀ i < 4 * n, imagePair (pkEncFlush s).pix i = streamPair c i := by
  intro i hi
  have hpos := h.position
  have hocc := h.occ
  by_cases hlt : i < 3 * s.pk.pixIdx.toNat
  · rw [imagePair_congr (pkEncFlush_readPixel_outside (by omega)), h.written i hlt]
  · have hq : s.pk.q ≠ [] := by
      rintro hnil
      simp [State.occ, hnil] at hpos
      omega
    have hidx : s.pk.pixIdx.toNat = i / 3 := by omega
    have hzero : s.pk.q.getD (3 * 0 + 2) 0 = 0 := List.getD_eq_default _ _ hocc
    have hpixel := pkEncFlush_readPixel hq hocc
    rw [hidx] at hpixel
    rw [imagePair_of_pixMerge (j := 0) (by rw [hzero]; exact hpixel), h.buffered, getD_map_range' _ _ _ _ (by omega)]
    congr 1
    omega

end

/-! What packing leaves alone -/

/-- Only the low pairs of pixels below a bound differ (R172). -/
structure LowPairsBelow (bound : Nat) (m m' : Memory) : Prop where
  high : ∀ p, m'.readPixel p &&& 0xFCFCFCFF = m.readPixel p &&& 0xFCFCFCFF
  above : ∀ p, bound ≤ p → m'.readPixel p = m.readPixel p

section
variable {k l : Nat} {m m' m'' : Memory}

theorem LowPairsBelow.refl (k : Nat) (m : Memory) : LowPairsBelow k m m := ⟨fun _ => rfl, fun _ _ => rfl⟩

theorem LowPairsBelow.trans (h : LowPairsBelow k m m') (h' : LowPairsBelow l m' m'') (hkl : k ≤ l) :
    LowPairsBelow l m m'' :=
  ⟨fun p => (h'.high p).trans (h.high p), fun p hp => (h'.above p hp).trans (h.above p (hkl.trans hp))⟩

/-- Every pixel is as before or has been merged with pairs. -/
theorem lowPairsBelow_of_pixels
    (h : ∀ p, m'.readPixel p = m.readPixel p ∨
      (p < k ∧ ∃ p0 p1 p2, m'.readPixel p = pixMerge (m.readPixel p) p0 p1 p2)) : LowPairsBelow k m m' := by
  refine ⟨fun p => ?_, fun p hp => ?_⟩
  · obtain h | ⟨-, p0, p1, p2, h⟩ := h p
    · rw [h]
    · rw [h, pixMerge_and_high]
  · obtain h | ⟨hlt, -⟩ := h p
    · exact h
    · exact absurd hlt (Nat.not_lt.mpr hp)

end

section
variable {s : State}

theorem pkEncByte_lowPairsBelow (b : Byte) (hrange : s.pk.pixIdx.toNat + needEnc s.occ ≤ s.npix) :
    LowPairsBelow (s.pk.pixIdx.toNat + needEnc s.occ) s.pix (pkEncByte b s).pix := by
  refine lowPairsBelow_of_pixels fun p => ?_
  by_cases hp : p < s.pk.pixIdx.toNat ∨ s.pk.pixIdx.toNat + needEnc s.occ ≤ p
  · exact .inl (pkEncByte_readPixel_outside hrange hp)
  · obtain ⟨n, rfl⟩ : ∃ n, p = s.pk.pixIdx.toNat + n := ⟨p - s.pk.pixIdx.toNat, by omega⟩
    exact .inr ⟨by omega, _, _, _, pkEncByte_readPixel hrange (by omega)⟩

theorem pkEncFlush_lowPairsBelow (hocc : s.occ ≤ 2) :
    LowPairsBelow (s.pk.pixIdx.toNat + needFlush s.occ) s.pix (pkEncFlush s).pix := by
  refine lowPairsBelow_of_pixels fun p => ?_
  by_cases hp : p < s.pk.pixIdx.toNat ∨ s.pk.pixIdx.toNat + needFlush s.occ ≤ p
  · exact .inl (pkEncFlush_readPixel_outside hp)
  · have hq : s.pk.q ≠ [] := by
      rintro hnil
      simp [State.occ, hnil, needFlush] at hp
      omega
    have hone : needFlush s.occ = 1 := if_pos (List.length_pos_iff.mpr hq)
    obtain rfl : p = s.pk.pixIdx.toNat := by omega
    exact .inr ⟨by omega, _, _, _, pkEncFlush_readPixel hq hocc⟩

end

/-! A list of bytes -/

/-- A list is the beginning of the stream of its bytes. -/
theorem eq_map_range'_getD (bs : List Byte) : bs = (List.range' 0 bs.length).map (bs.getD · 0) := by
  refine List.ext_getElem (by simp) fun i hi _ => ?_
  simp [hi]

/-- Packing leaves the image size alone. -/
theorem packBytes_npix (bs : List Byte) (s : State) : (packBytes bs s).npix = s.npix := by
  induction bs generalizing s with
  | nil => rfl
  | cons b rest ih => exact ih (pkEncByte b s)

/-- Packing the bytes n to n+k-1 of a stream (R172). -/
theorem Packed.packBytes {c : Nat → Byte} (k : Nat) {n : Nat} {s : State} (h : Packed c n s)
    (hfits : 4 * (n + k) ≤ 3 * s.npix) :
    Packed c (n + k) (packBytes ((List.range' n k).map c) s) ∧
      LowPairsBelow ((4 * (n + k) + 2) / 3) s.pix (packBytes ((List.range' n k).map c) s).pix := by
  induction k generalizing n s with
  | zero => exact ⟨h, LowPairsBelow.refl _ _⟩
  | succ k ih =>
    have hpos := h.position
    have hnk : n + (k + 1) = n + 1 + k := by omega
    rw [hnk] at hfits ⊢
    have hneed : s.pk.pixIdx.toNat + needEnc s.occ ≤ s.npix ∧ s.pk.pixIdx.toNat + needEnc s.occ ≤
        (4 * (n + 1 + k) + 2) / 3 := by
      unfold needEnc
      omega
    obtain ⟨hpacked, hlow⟩ := ih (h.pkEncByte hneed.1) hfits
    exact ⟨hpacked, (pkEncByte_lowPairsBelow (c n) hneed.1).trans hlow hneed.2⟩

/-- Packing a list of bytes with a fresh packer and flushing. -/
theorem packBytes_fresh (bs : List Byte) {s : State} (hpk : s.pk = Packer.fresh) (hfits : 4 * bs.length ≤ 3 * s.npix) :
    Packed (bs.getD · 0) bs.length (packBytes bs s) ∧
      LowPairsBelow ((4 * bs.length + 2) / 3) s.pix (packBytes bs s).pix := by
  have hstart : Packed (bs.getD · 0) 0 s := packed_fresh (by rw [hpk]; rfl) (by rw [hpk]; rfl)
  have h := hstart.packBytes bs.length (by omega)
  rwa [← eq_map_range'_getD, Nat.zero_add] at h

/-- Settles O39: packing stands at ceil(4N/3) pixels once the last pairs are flushed, and writes low pairs below. -/
theorem packingTouchesOnlyTheFirstPixels : Obligations.PackingTouchesOnlyTheFirstPixels := by
  intro bs s hpk hfits
  obtain ⟨hpacked, hlow⟩ := packBytes_fresh bs hpk hfits
  have hpos := hpacked.position
  have hocc := hpacked.occ
  have hnpix := npix_lt s
  have hflush : (packBytes bs s).pk.pixIdx.toNat + needFlush (packBytes bs s).occ = (4 * bs.length + 2) / 3 := by
    unfold needFlush
    split <;> omega
  have hall := hlow.trans (hflush ▸ pkEncFlush_lowPairsBelow hocc) le_rfl
  refine ⟨?_, hall.high, hall.above⟩
  rw [pkEncFlush_pk]
  exact (toNat_add_ofNat (by omega)).trans hflush

/-! Unpacking -/

/-- A packer that has unpacked n bytes: the pairs read from the image and not yet used are in the buffer (R172). -/
structure Unpacked (n : Nat) (s : State) : Prop where
  position : 4 * n + s.occ = 3 * s.pk.pixIdx.toNat
  buffered : s.pk.q = (List.range' (4 * n) s.occ).map (imagePair s.pix)

section
variable {n : Nat} {s : State}

theorem unpacked_fresh (h : s.pk.pixIdx = 0) (hq : s.pk.q = []) : Unpacked 0 s where
  position := by simp [h, hq, State.occ]
  buffered := by simp [hq, State.occ]

/-- The filled buffer is a piece of the image's pairs. -/
theorem Unpacked.filled_q (h : Unpacked n s) (hrange : s.pk.pixIdx.toNat + needDec s.occ ≤ s.npix) :
    s.filled.q = (List.range' (4 * n) (s.occ + 3 * needDec s.occ)).map (imagePair s.pix) := by
  rw [Machine.filled_q s (lt_of_le_of_lt hrange (npix_lt s)), pixelPairs_eq_image, h.buffered, ← List.map_append,
    ← h.position, List.range'_append_1]

/-- The byte unpacked is four pairs of the image (R165). -/
theorem Unpacked.pkDecByte_fst (h : Unpacked n s) (hrange : s.pk.pixIdx.toNat + needDec s.occ ≤ s.npix) :
    (pkDecByte s).1 = byteOfPairs (imagePair s.pix (4 * n)) (imagePair s.pix (4 * n + 1))
      (imagePair s.pix (4 * n + 2)) (imagePair s.pix (4 * n + 3)) := by
  have hfour := four_le_filled s
  have hlen := h.filled_q hrange ▸ hfour
  rw [List.length_map, List.length_range'] at hlen
  change headByte s.filled.q = _
  rw [headByte_eq _ hfour, h.filled_q hrange, getD_map_range' _ _ _ _ (by omega), getD_map_range' _ _ _ _ (by omega),
    getD_map_range' _ _ _ _ (by omega), getD_map_range' _ _ _ _ (by omega)]
  rfl

/-- One more byte unpacked (R165). -/
theorem Unpacked.pkDecByte_snd (h : Unpacked n s) (hrange : s.pk.pixIdx.toNat + needDec s.occ ≤ s.npix) :
    Unpacked (n + 1) (pkDecByte s).2 := by
  have hnpix := npix_lt s
  have hpos := h.position
  have hfour := four_le_filled s
  have hlen := h.filled_q hrange ▸ hfour
  rw [List.length_map, List.length_range'] at hlen
  have hq : (pkDecByte s).2.pk.q =
      (List.range' (4 * (n + 1)) (s.occ + 3 * needDec s.occ - 4)).map (imagePair s.pix) := by
    rw [Machine.pkDecByte_snd]
    change s.filled.q.drop 4 = _
    rw [h.filled_q hrange, ← List.map_drop, List.drop_range', Nat.mul_add]
  have hidx : (pkDecByte s).2.pk.pixIdx.toNat = s.pk.pixIdx.toNat + needDec s.occ := by
    rw [Machine.pkDecByte_snd]
    exact toNat_add_ofNat (lt_of_le_of_lt hrange hnpix)
  have hocc : (pkDecByte s).2.occ = s.occ + 3 * needDec s.occ - 4 := by
    rw [State.occ, hq, List.length_map, List.length_range']
  have hpix : (pkDecByte s).2.pix = s.pix := by rw [Machine.pkDecByte_snd]
  refine ⟨?_, ?_⟩
  · rw [hidx, hocc]
    omega
  · rw [hq, hocc, hpix]

/-- A byte of a stream laid over the image is unpacked as it is. -/
theorem Unpacked.pkDecByte_stream {c : Nat → Byte} (h : Unpacked n s)
    (hrange : s.pk.pixIdx.toNat + needDec s.occ ≤ s.npix)
    (himage : ∀ i < 4 * (n + 1), imagePair s.pix i = streamPair c i) : (pkDecByte s).1 = c n := by
  rw [h.pkDecByte_fst hrange, himage _ (by omega), himage _ (by omega), himage _ (by omega), himage _ (by omega),
    byteOfPairs_stream]

/-- With four more pairs in the image the needed pixels exist (R167, R172). -/
theorem Unpacked.needDec_le (h : Unpacked n s) (hidx : s.pk.pixIdx.toNat ≤ s.npix)
    (hfits : 4 * (n + 1) ≤ 3 * s.npix) : s.pk.pixIdx.toNat + needDec s.occ ≤ s.npix := by
  have hpos := h.position
  unfold needDec
  split_ifs <;> omega

/-- Unpacking k bytes of a stream laid over the image (R172). -/
theorem Unpacked.unpackBytes {c : Nat → Byte} (k : Nat) (h : Unpacked n s) (hidx : s.pk.pixIdx.toNat ≤ s.npix)
    (hfits : 4 * (n + k) ≤ 3 * s.npix) (himage : ∀ i < 4 * (n + k), imagePair s.pix i = streamPair c i) :
    (unpackBytes k s).1 = (List.range' n k).map c := by
  induction k generalizing n s with
  | zero => rfl
  | succ k ih =>
    have hnk : n + (k + 1) = n + 1 + k := by omega
    rw [hnk] at hfits himage
    have hneed := h.needDec_le hidx (by omega)
    have hbyte := h.pkDecByte_stream hneed fun i hi => himage i (by omega)
    have hframe := Machine.pkDecByte_snd s
    have hrest := ih (h.pkDecByte_snd hneed)
      (by rw [hframe]; exact (toNat_add_ofNat (lt_of_le_of_lt hneed (npix_lt s))).trans_le hneed)
      (by rw [hframe]; exact hfits) (by rw [hframe]; exact himage)
    rw [Machine.unpackBytes, hbyte, hrest]
    rfl

end

/-- Settles O38: packing lays the bytes' pairs over the image, and unpacking reads them there. -/
theorem unpackingPackedBytesReturnsThem : Obligations.UnpackingPackedBytesReturnsThem := by
  intro bs s hpk hfits
  obtain ⟨hpacked, -⟩ := packBytes_fresh bs hpk hfits
  have hstart : Unpacked 0 { pkEncFlush (packBytes bs s) with pk := Packer.fresh } := unpacked_fresh rfl rfl
  have hfits' : 4 * (0 + bs.length) ≤ 3 * (packBytes bs s).npix := by rwa [packBytes_npix, Nat.zero_add]
  have himage := hpacked.pkEncFlush
  rw [hstart.unpackBytes (c := (bs.getD · 0)) bs.length (Nat.zero_le _) hfits' (by rwa [Nat.zero_add])]
  exact (eq_map_range'_getD bs).symm

end Sys2Proof.Machine
end

section
/-! SUPPORT. The six steps of the sequencer (44_pipeline.md R182, R185 to R192), each as one next state, and the
statements about them. -/

namespace Sys2Proof.Machine

/-! Whose step it is -/

section
variable {s : State} (P : Config.Params)

theorem sequencerStep_encHdr (hf : s.faultedBy = none) (hp : s.plState = .encHdr) :
    sequencerStep P s = stepEncHdr P s := by simp [sequencerStep, (faulted_eq_false s).mpr hf, hp]

theorem sequencerStep_encPay (hf : s.faultedBy = none) (hp : s.plState = .encPay) :
    sequencerStep P s = stepEncPay P s := by simp [sequencerStep, (faulted_eq_false s).mpr hf, hp]

theorem sequencerStep_encFlush (hf : s.faultedBy = none) (hp : s.plState = .encFlush) :
    sequencerStep P s = stepEncFlush s := by simp [sequencerStep, (faulted_eq_false s).mpr hf, hp]

theorem sequencerStep_decHdr (hf : s.faultedBy = none) (hp : s.plState = .decHdr) :
    sequencerStep P s = stepDecHdr P s := by simp [sequencerStep, (faulted_eq_false s).mpr hf, hp]

theorem sequencerStep_decAlloc (hf : s.faultedBy = none) (hp : s.plState = .decAlloc) :
    sequencerStep P s = stepDecAlloc P s := by simp [sequencerStep, (faulted_eq_false s).mpr hf, hp]

theorem sequencerStep_decPay (hf : s.faultedBy = none) (hp : s.plState = .decPay) :
    sequencerStep P s = stepDecPay P s := by simp [sequencerStep, (faulted_eq_false s).mpr hf, hp]

/-- Outside the busy states the sequencer stands still (R190). -/
theorem sequencerStep_not_busy (hb : s.busy = false) : sequencerStep P s = .next s := by
  unfold sequencerStep
  split
  · rfl
  · unfold State.busy at hb
    cases hp : s.plState <;> simp [hp, PlState.isBusy] at hb ⊢

end

/-! Masked bytes in and out -/

/-- CAP is below W*H, and so below 2^32 (R181). -/
theorem cap_le_npix (s : State) : 4 * s.cap ≤ 3 * s.npix := by
  unfold State.cap
  omega

theorem cap_lt (s : State) : s.cap < 2 ^ 32 := by
  have hcap := cap_le_npix s
  have hnpix := npix_lt s
  omega

section
variable (P : Config.Params) (k : KsId) (b : Byte) (s : State)

/-- A masked byte packed: the packer after the mask, and BYTE_CNT counts it (R182, R185). -/
theorem packMasked_eq : packMasked P k b s =
    { pkEncByte (maskByte P k b s).1 (maskByte P k b s).2 with byteCnt := s.byteCnt + 1 } := by
  have hcnt : (maskByte P k b s).2.byteCnt = s.byteCnt := by rw [maskByte_frame]
  rw [← hcnt]
  rfl

/-- Packing a masked byte writes the instances, LPOS, the packer, PIX and BYTE_CNT alone. -/
theorem packMasked_frame : packMasked P k b s = { s with
    ks0 := (maskByte P k b s).2.ks0, ks1 := (maskByte P k b s).2.ks1, lpos := (maskByte P k b s).2.lpos
    pk := (pkEncByte (maskByte P k b s).1 s).pk, pix := (pkEncByte (maskByte P k b s).1 s).pix
    byteCnt := s.byteCnt + 1 } := by
  have hpk : (maskByte P k b s).2.pk = s.pk := by rw [maskByte_frame]
  have hpix : (maskByte P k b s).2.pix = s.pix := by rw [maskByte_frame]
  rw [packMasked_eq, pkEncByte, State.withFlow, hpk, hpix]
  conv_lhs => rw [maskByte_frame]
  rfl

/-- Unpacking a byte writes the packer alone (R165). -/
theorem pkDecByte_frame : (pkDecByte s).2 = { s with pk := (pkDecByte s).2.pk } := by
  conv_lhs => rw [pkDecByte_snd]
  rw [pkDecByte_snd]

/-- Unpacking and unmasking a byte writes the packer, the instances and LPOS alone. -/
theorem unpackUnmasked_frame : (unpackUnmasked P k s).2 = { s with
    ks0 := (unpackUnmasked P k s).2.ks0, ks1 := (unpackUnmasked P k s).2.ks1
    lpos := (unpackUnmasked P k s).2.lpos, pk := (pkDecByte s).2.pk } := by
  have hpix : (pkDecByte s).2.pix = s.pix := by rw [pkDecByte_snd]
  refine (maskByte_frame P k (pkDecByte s).1 (pkDecByte s).2).trans ?_
  rw [← hpix]
  rfl

/-- The byte and the state after unpacking and unmasking, with the choice of MASK_EN written out (R182). -/
theorem unpackUnmasked_eq : unpackUnmasked P k s =
    (if s.maskEn = true then (pkDecByte s).1 ^^^ (ksNextByte P k (pkDecByte s).2).1 else (pkDecByte s).1,
      if s.maskEn = true then (ksNextByte P k (pkDecByte s).2).2 else (pkDecByte s).2) := by
  have hmask : (pkDecByte s).2.maskEn = s.maskEn := by rw [pkDecByte_frame]
  rw [unpackUnmasked, maskByte_eq, hmask]

end

/-! Encrypt -/

section
variable (P : Config.Params) {s : State}

/-- The index of the payload byte in hand (R35). -/
theorem payloadIdx_eq (h : 5 ≤ s.byteCnt.toNat) : s.payloadIdx = s.byteCnt.toNat - 5 := by
  unfold State.payloadIdx
  exact BitVec.toNat_sub_of_le h

theorem pixelsExist_iff (n : Nat) : s.pixelsExist n = true ↔ s.pk.pixIdx.toNat + n ≤ s.npix := decide_eq_true_iff

theorem stepEncHdr_eq (hc : s.byteCnt.toNat ≤ 4) (hr : s.pk.pixIdx.toNat + needEnc s.occ ≤ s.npix) :
    stepEncHdr P s = .next { packMasked P .ks0 (hdrBuf s.hdr s.byteCnt.toNat) s with
      plState := afterHeaderByte s.byteCnt.toNat s } := by
  rw [stepEncHdr, if_neg (Nat.not_lt.mpr hc), if_pos ((pixelsExist_iff _).mpr hr)]

theorem stepEncPay_eq (h5 : 5 ≤ s.byteCnt.toNat) (hc : s.byteCnt.toNat < 5 + s.size.toNat)
    (hcap : 5 + s.size.toNat ≤ s.cap) (hr : s.pk.pixIdx.toNat + needEnc s.occ ≤ s.npix) :
    stepEncPay P s = .next { packMasked P s.psel (s.input.read (s.byteCnt.toNat - 5)) s with
      plState := if s.byteCnt.toNat + 1 = 5 + s.size.toNat then .encFlush else .encPay } := by
  have hidx := payloadIdx_eq h5
  have hlt := cap_lt s
  have hcnt : (s.byteCnt + 1).toNat = s.byteCnt.toNat + 1 := toNat_add_ofNat (n := 1) (by omega)
  rw [stepEncPay, hidx, if_neg (by omega), if_pos ((pixelsExist_iff _).mpr hr)]
  simp only [afterPayloadByte, packMasked_eq, hcnt]

theorem stepEncFlush_eq (hr : s.pk.pixIdx.toNat + needFlush s.occ ≤ s.npix) :
    stepEncFlush s = .next { pkEncFlush s with code := .ok, plState := .done } := by
  rw [stepEncFlush, if_pos ((pixelsExist_iff _).mpr hr)]

end

/-- Settles O45. -/
theorem encHdrStepPacksAHeaderByte : Obligations.EncHdrStepPacksAHeaderByte := by
  intro s ⟨hf, hs⟩ hp hc hr
  rw [step_idle_schedule s hs, sequencerStep_encHdr _ hf hp, stepEncHdr_eq _ hc hr, packMasked_eq, maskByte_eq]
  rfl

/-- Settles O46. -/
theorem encPayStepPacksAPayloadByte : Obligations.EncPayStepPacksAPayloadByte := by
  intro s ⟨hf, hs⟩ hp h5 hc hcap hr
  rw [step_idle_schedule s hs, sequencerStep_encPay _ hf hp, stepEncPay_eq _ h5 hc hcap hr, packMasked_eq, maskByte_eq]

/-- Settles O47. -/
theorem encFlushStepEndsTheEncrypt : Obligations.EncFlushStepEndsTheEncrypt := by
  intro s ⟨hf, hs⟩ hp hr
  rw [step_idle_schedule s hs, sequencerStep_encFlush _ hf hp, stepEncFlush_eq hr]

/-! Decrypt -/

section
variable (P : Config.Params) (s : State)

/-- The checks after a parsed byte write PL_STATE and CODE alone (R189, R223). -/
theorem checkHeader_eq : checkHeader P s = { s with
    plState := if s.hdr.unsup = true then .failed
      else if s.hdr.complete = true then (if (s.cap : Int) < 5 + sval P s.hdr.size then .failed else .decAlloc)
      else s.plState
    code := if s.hdr.unsup = true then .unsupportedHeaderVersion
      else if s.hdr.complete = true then (if (s.cap : Int) < 5 + sval P s.hdr.size then .payloadTooLarge else s.code)
      else s.code } := by
  unfold checkHeader
  split_ifs <;> rfl

/-- A size read as signed is negative only when sizes are signed (R189, R191). -/
theorem sval_neg_iff (n : Word) : sval P n < 0 ↔ P.sizeSigned = true ∧ n.toInt < 0 := by
  unfold sval
  split_ifs with h <;> simp [h]

/-- The payload's end writes PL_STATE and CODE alone (R191). -/
theorem enterPayload_eq : enterPayload s = { s with
    code := if s.hdr.size = 0 then .ok else s.code
    plState := if s.hdr.size = 0 then .done else .decPay } := by
  unfold enterPayload
  split_ifs <;> rfl

/-- Constructing instance 1 when masking writes instance 1 alone (R135). -/
theorem constructWhenMasking_ks1 : constructWhenMasking P .ks1 s = { s with
    ks1 := if s.maskEn = true then constructed P (P.seedSlice s.seed1.buf) else s.ks1 } := by
  unfold constructWhenMasking
  split_ifs <;> rfl

/-- After a grant: the two failures of the payload keystream, and else the payload (R191, R223). -/
theorem selectPayloadKs_eq : selectPayloadKs P s =
    if s.hdr.version = 1 ∧ s.maskEn = true ∧ s.seed1.cnt ≠ 16 then
      { s with psel := .ks1, code := .invalidSeed, plState := .failed }
    else if s.hdr.version ≠ 1 ∧ s.maskEn = true ∧ P.v0Policy = .reject then
      { s with psel := .ks0, code := .legacyUnsupported, plState := .failed }
    else { s with
      psel := if s.hdr.version = 1 then .ks1 else .ks0
      ks1 := if s.hdr.version = 1 ∧ s.maskEn = true then constructed P (P.seedSlice s.seed1.buf) else s.ks1
      code := if s.hdr.size = 0 then .ok else s.code
      plState := if s.hdr.size = 0 then .done else .decPay } := by
  have hready : (!s.seedReady .ks1) = true ↔ s.seed1.cnt ≠ 16 := by
    rw [Bool.not_eq_true', ← Bool.not_eq_true, seedReady_iff]
    rfl
  unfold selectPayloadKs
  rw [constructWhenMasking_ks1, enterPayload_eq, enterPayload_eq]
  by_cases hv : s.hdr.version = 1
  · simp only [hv, if_true, true_and, Bool.and_eq_true, hready, ne_eq, not_true_eq_false, false_and, if_false]
    split_ifs <;> rfl
  · simp only [hv, if_false, false_and, Bool.and_eq_true, beq_iff_eq, ne_eq, not_false_eq_true, true_and]
    split_ifs <;> rfl

/-- The DEC_ALLOC step (R66, R191). -/
theorem stepDecAlloc_eq : stepDecAlloc P s = .next (
    if sval P s.hdr.size < 0 ∨ s.allocAnswer = false then { s with code := .allocationOverflow, plState := .failed }
    else selectPayloadKs P { s with outSize := some s.hdr.size.toNat }) := by
  unfold stepDecAlloc
  cases ha : s.allocAnswer <;> by_cases h : sval P s.hdr.size < 0 <;> simp [h, ha, raiseFail]

/-- The state in which the payload of a decrypt begins, or ends when it is empty (R191). -/
def payloadEntered (P : Config.Params) (s : State) : State :=
  { s with
    outSize := some s.hdr.size.toNat
    psel := if s.hdr.version = 1 then .ks1 else .ks0
    ks1 := if s.hdr.version = 1 ∧ s.maskEn = true then constructed P (P.seedSlice s.seed1.buf) else s.ks1
    code := if s.hdr.size = 0 then .ok else s.code
    plState := if s.hdr.size = 0 then .done else .decPay }

/-- What the DEC_ALLOC step can do: fail with one of three codes, or enter the payload of a size that is not negative
(R191, R223). -/
theorem stepDecAlloc_cases :
    (∃ c o k, c ∈ [Code.allocationOverflow, .invalidSeed, .legacyUnsupported] ∧
      stepDecAlloc P s = .next { s with outSize := o, psel := k, code := c, plState := .failed }) ∨
    (0 ≤ sval P s.hdr.size ∧ stepDecAlloc P s = .next (payloadEntered P s)) := by
  rw [stepDecAlloc_eq, selectPayloadKs_eq]
  split
  · exact .inl ⟨_, s.outSize, s.psel, by simp, rfl⟩
  next hgrant =>
  split
  · exact .inl ⟨_, some s.hdr.size.toNat, .ks1, by simp, rfl⟩
  split
  · exact .inl ⟨_, some s.hdr.size.toNat, .ks0, by simp, rfl⟩
  · exact .inr ⟨not_lt.mp fun hneg => hgrant (.inl hneg), rfl⟩

variable {P s}

theorem stepDecHdr_exhausted (h : s.npix < s.pk.pixIdx.toNat + needDec s.occ) :
    stepDecHdr P s = .next { s with code := .imageExhausted, plState := .failed } := by
  rw [stepDecHdr, if_neg (mt (pixelsExist_iff _).mp (Nat.not_le.mpr h))]
  rfl

/-- The DEC_HDR step when its pixels exist (R189, R223). -/
theorem stepDecHdr_eq (hp : s.plState = .decHdr) (hr : s.pk.pixIdx.toNat + needDec s.occ ≤ s.npix) :
    stepDecHdr P s = .next (
      let m := unpackUnmasked P .ks0 s
      let h := hdrAdd m.1 s.hdr
      { m.2 with
        hdr := h
        byteCnt := s.byteCnt + 1
        plState := if h.unsup = true then .failed
          else if h.complete = true then (if (s.cap : Int) < 5 + sval P h.size then .failed else .decAlloc)
          else .decHdr
        code := if h.unsup = true then .unsupportedHeaderVersion
          else if h.complete = true then (if (s.cap : Int) < 5 + sval P h.size then .payloadTooLarge else s.code)
          else s.code }) := by
  have hframe := unpackUnmasked_frame P .ks0 s
  have hhdr : (unpackUnmasked P .ks0 s).2.hdr = s.hdr := by rw [hframe]
  have hcnt : (unpackUnmasked P .ks0 s).2.byteCnt = s.byteCnt := by rw [hframe]
  have hcode : (unpackUnmasked P .ks0 s).2.code = s.code := by rw [hframe]
  have hstate : (unpackUnmasked P .ks0 s).2.plState = .decHdr := by rw [hframe, hp]
  have hcap : (unpackUnmasked P .ks0 s).2.cap = s.cap := by rw [hframe]; rfl
  rw [stepDecHdr, if_pos ((pixelsExist_iff _).mpr hr), ← hhdr, ← hcnt, ← hcode, ← hstate, ← hcap]
  exact congrArg _ (checkHeader_eq P _)

/-- The granted buffer has the bytes below its length (R64). -/
theorem outputExists_of_outSize {n i : Nat} (h : s.outSize = some n) (hi : i < n) : s.outputExists i = true := by
  simp [State.outputExists, h, hi]

/-- The end of the DEC_PAY step writes PL_STATE and CODE alone (R192). -/
theorem finishPayload_eq (s : State) : finishPayload s = { s with
    code := if s.byteCnt.toNat = 5 + s.hdr.size.toNat then .ok else s.code
    plState := if s.byteCnt.toNat = 5 + s.hdr.size.toNat then .done else s.plState } := by
  unfold finishPayload
  split_ifs <;> rfl

/-- The DEC_PAY step when its pixels and its byte of OUT exist (R192). -/
theorem stepDecPay_eq (hp : s.plState = .decPay) (h5 : 5 ≤ s.byteCnt.toNat)
    (hc : s.byteCnt.toNat < 5 + s.hdr.size.toNat) (hcap : 5 + s.hdr.size.toNat ≤ s.cap)
    (hout : s.outSize = some s.hdr.size.toNat) (hr : s.pk.pixIdx.toNat + needDec s.occ ≤ s.npix) :
    stepDecPay P s = .next (
      let m := unpackUnmasked P s.psel s
      { m.2 with
        output := s.output.write (s.byteCnt.toNat - 5) m.1
        byteCnt := s.byteCnt + 1
        plState := if s.byteCnt.toNat + 1 = 5 + s.hdr.size.toNat then .done else .decPay
        code := if s.byteCnt.toNat + 1 = 5 + s.hdr.size.toNat then .ok else s.code }) := by
  have hframe := unpackUnmasked_frame P s.psel s
  have hnext : (s.byteCnt + 1).toNat = s.byteCnt.toNat + 1 :=
    toNat_add_ofNat (n := 1) (by have := cap_lt s; omega)
  have hhdr : (unpackUnmasked P s.psel s).2.hdr = s.hdr := by rw [hframe]
  have hcnt : (unpackUnmasked P s.psel s).2.byteCnt = s.byteCnt := by rw [hframe]
  have hcode : (unpackUnmasked P s.psel s).2.code = s.code := by rw [hframe]
  have hstate : (unpackUnmasked P s.psel s).2.plState = .decPay := by rw [hframe, hp]
  have houtput : (unpackUnmasked P s.psel s).2.output = s.output := by rw [hframe]
  rw [stepDecPay, if_pos ((pixelsExist_iff _).mpr hr), payloadIdx_eq h5,
    if_pos (outputExists_of_outSize hout (by omega))]
  simp only [finishPayload_eq, hcnt, hnext, hhdr, hcode, hstate, houtput]

end

/-- Settles O48. -/
theorem decHdrStepParsesAHeaderByte : Obligations.DecHdrStepParsesAHeaderByte := by
  intro s ⟨hf, hs⟩ hp
  rw [step_idle_schedule s hs, sequencerStep_decHdr _ hf hp]
  refine ⟨stepDecHdr_exhausted, fun hr => ⟨_, stepDecHdr_eq hp hr, ?_⟩⟩
  simp only [unpackUnmasked_eq]
  rfl

/-- Settles O49. -/
theorem decAllocStepSelectsThePayloadKeystream : Obligations.DecAllocStepSelectsThePayloadKeystream := by
  intro s ⟨hf, hs⟩ hp
  rw [step_idle_schedule s hs, sequencerStep_decAlloc _ hf hp]
  refine ⟨_, stepDecAlloc_eq _ s, ?_⟩
  simp only [← sval_neg_iff]
  rw [selectPayloadKs_eq]
  split_ifs <;> rfl

/-- Settles O50. -/
theorem decPayStepStoresAPayloadByte : Obligations.DecPayStepStoresAPayloadByte := by
  intro s ⟨hf, hs⟩ hp h5 hc hcap hout hr
  rw [step_idle_schedule s hs, sequencerStep_decPay _ hf hp]
  refine ⟨_, stepDecPay_eq hp h5 hc hcap hout hr, ?_⟩
  have hframe := unpackUnmasked_frame Config.params s.psel s
  have hbyte := congrArg Prod.fst (unpackUnmasked_eq Config.params s.psel s)
  have hstate : (unpackUnmasked Config.params s.psel s).2 =
      if s.maskEn = true then (ksNextByte Config.params s.psel (pkDecByte s).2).2 else (pkDecByte s).2 :=
    congrArg Prod.snd (unpackUnmasked_eq Config.params s.psel s)
  have hpix : (unpackUnmasked Config.params s.psel s).2.pix = s.pix := by rw [hframe]
  have hinput : (unpackUnmasked Config.params s.psel s).2.input = s.input := by rw [hframe]
  have hpk : (unpackUnmasked Config.params s.psel s).2.pk = (pkDecByte s).2.pk := by rw [hframe]
  refine ⟨(read_write_same _ _ _).trans hbyte, fun a ha => read_write_other _ _ _ _ ha, hpix, hinput, rfl, hpk, rfl, ?_⟩
  dsimp only
  rw [← hstate, hframe]

end Sys2Proof.Machine
end

section
/-! SUPPORT. PL_STATE and its arrows (44_pipeline.md R180), and the statement about them: each transition keeps PL_STATE
or moves it along an arrow of its mover. -/

namespace Sys2Proof.Machine

/-- PL_STATE is kept, or moves along an arrow that m may take. -/
def MovesAlongArrow (m : Mover) (s t : State) : Prop := t.plState = s.plState ∨ Arrow s.plState m t.plState

section
variable {s t : State} {m : Mover} {p q : PlState}

theorem movesAlongArrow_of_arrow (hp : s.plState = p) (hq : t.plState = q) (h : Arrow p m q) : MovesAlongArrow m s t :=
  .inr (hp ▸ hq ▸ h)

/-- A command that only IDLE permits finds the block in IDLE (R101). -/
theorem plState_idle_of_permitted {i : Instr} (h : permitted i s.plState = true)
    (hi : i ≠ .nop ∧ i ≠ .plCancel ∧ i ≠ .plAck) : s.plState = .idle := by
  obtain ⟨hnop, hcancel, hack⟩ := hi
  simpa [permitted_iff, hnop, hcancel, hack] using h

theorem plEncryptEffect_moves (P : Config.Params) (v : Byte) (hp : s.plState = .idle) :
    MovesAlongArrow (.command (.plEncrypt v)) s (plEncryptEffect P v s) := by
  cases hc : encryptCheck P v s with
  | some c =>
    rw [plEncryptEffect_of_check_some hc]
    exact movesAlongArrow_of_arrow hp rfl (.refuseEncrypt v)
  | none =>
    rw [plEncryptEffect_of_check_none hc, startEncrypt_eq]
    exact movesAlongArrow_of_arrow hp rfl (.startEncrypt v)

theorem plDecryptEffect_moves (P : Config.Params) (hp : s.plState = .idle) :
    MovesAlongArrow (.command .plDecrypt) s (plDecryptEffect P s) := by
  rw [plDecryptEffect_eq, startDecrypt_eq]
  split
  · exact movesAlongArrow_of_arrow hp rfl .refuseDecrypt
  · exact movesAlongArrow_of_arrow hp rfl .startDecrypt

theorem plCancelEffect_moves (s : State) : MovesAlongArrow (.command .plCancel) s (plCancelEffect s) := by
  unfold plCancelEffect
  split
  · next hb => exact movesAlongArrow_of_arrow rfl rfl (.cancelled _ hb)
  · exact .inl rfl

/-- A command the gate lets through keeps PL_STATE or takes an arrow of its own. -/
theorem commandEffect_moves (P : Config.Params) (i : Instr) (hp : permitted i s.plState = true) :
    MovesAlongArrow (.command i) s (commandEffect P i s) := by
  by_cases hprim : i.primitive = true
  · obtain ⟨-, hframe⟩ := primitiveOutcome_commandEffect P i s hprim
    exact .inl hframe.plState
  · cases i with
    | nop => exact .inl rfl
    | plEncrypt v => exact plEncryptEffect_moves P v (plState_idle_of_permitted hp (by simp))
    | plDecrypt => exact plDecryptEffect_moves P (plState_idle_of_permitted hp (by simp))
    | plCancel => exact plCancelEffect_moves s
    | plAck =>
      have hb : s.plState.isBusy = false := by simpa [permitted_plAck] using hp
      exact movesAlongArrow_of_arrow rfl rfl (.acknowledged _ hb)
    | _ => exact absurd rfl hprim

/-! The sequencer's arrows -/

section
variable (P : Config.Params)

theorem stepEncHdr_moves (hp : s.plState = .encHdr) (h : stepEncHdr P s = .next t) :
    MovesAlongArrow .sequencer s t := by
  unfold stepEncHdr at h
  split at h
  · cases h
  split at h
  · cases h
    unfold MovesAlongArrow afterHeaderByte
    rw [hp]
    dsimp only
    split_ifs
    · exact .inr .headerPacked
    · exact .inr .emptyPayload
    · exact .inl rfl
  · cases h

theorem stepEncPay_moves (hp : s.plState = .encPay) (h : stepEncPay P s = .next t) :
    MovesAlongArrow .sequencer s t := by
  unfold stepEncPay at h
  split at h
  · cases h
  split at h
  · cases h
    unfold MovesAlongArrow afterPayloadByte
    rw [hp]
    dsimp only
    split_ifs
    · exact .inr .payloadPacked
    · exact .inl rfl
  · cases h

theorem stepEncFlush_moves (hp : s.plState = .encFlush) (h : stepEncFlush s = .next t) :
    MovesAlongArrow .sequencer s t := by
  unfold stepEncFlush at h
  split at h
  · cases h
    exact movesAlongArrow_of_arrow hp rfl .flushed
  · cases h

theorem stepDecHdr_moves (hp : s.plState = .decHdr) (h : stepDecHdr P s = .next t) :
    MovesAlongArrow .sequencer s t := by
  by_cases hr : s.pk.pixIdx.toNat + needDec s.occ ≤ s.npix
  · rw [stepDecHdr_eq hp hr] at h
    cases h
    unfold MovesAlongArrow
    rw [hp]
    dsimp only
    split_ifs
    · exact .inr .headerFailed
    · exact .inr .headerFailed
    · exact .inr .headerParsed
    · exact .inl rfl
  · rw [stepDecHdr_exhausted (Nat.not_le.mp hr)] at h
    cases h
    exact movesAlongArrow_of_arrow hp rfl .headerFailed

theorem stepDecAlloc_moves (hp : s.plState = .decAlloc) (h : stepDecAlloc P s = .next t) :
    MovesAlongArrow .sequencer s t := by
  obtain ⟨c, o, k, -, he⟩ | ⟨-, he⟩ := stepDecAlloc_cases P s <;> rw [he] at h <;> cases h
  · exact movesAlongArrow_of_arrow hp rfl .allocFailed
  · by_cases hsize : s.hdr.size = 0
    · exact movesAlongArrow_of_arrow hp (if_pos hsize) .nothingToRead
    · exact movesAlongArrow_of_arrow hp (if_neg hsize) .allocated

theorem stepDecPay_moves (hp : s.plState = .decPay) (h : stepDecPay P s = .next t) :
    MovesAlongArrow .sequencer s t := by
  unfold stepDecPay at h
  split at h
  · split at h
    · cases h
      have hstate : (unpackUnmasked P s.psel s).2.plState = s.plState := by rw [unpackUnmasked_frame]
      rw [MovesAlongArrow, finishPayload_eq, ← hstate]
      dsimp only
      split_ifs
      · exact .inr (by rw [hstate, hp]; exact .payloadRead)
      · exact .inl rfl
    · cases h
  · cases h

/-- A step of the sequencer keeps PL_STATE or takes an arrow of its own (R180, R190). -/
theorem sequencerStep_moves (hf : s.faultedBy = none) (h : sequencerStep P s = .next t) :
    MovesAlongArrow .sequencer s t := by
  cases hp : s.plState with
  | encHdr => exact stepEncHdr_moves P hp (sequencerStep_encHdr P hf hp ▸ h)
  | encPay => exact stepEncPay_moves P hp (sequencerStep_encPay P hf hp ▸ h)
  | encFlush => exact stepEncFlush_moves hp (sequencerStep_encFlush P hf hp ▸ h)
  | decHdr => exact stepDecHdr_moves P hp (sequencerStep_decHdr P hf hp ▸ h)
  | decAlloc => exact stepDecAlloc_moves P hp (sequencerStep_decAlloc P hf hp ▸ h)
  | decPay => exact stepDecPay_moves P hp (sequencerStep_decPay P hf hp ▸ h)
  | idle | done | failed | aborted =>
    rw [sequencerStep_not_busy P (by rw [State.busy, hp]; rfl)] at h
    cases h
    exact .inl rfl

end

theorem writeRegister_plState (s : State) (off : Nat) (v : Word) : (writeRegister s off v).plState = s.plState := by
  unfold writeRegister
  split_ifs <;> rfl

/-- Every transition keeps PL_STATE or takes an arrow of its mover. -/
theorem Transition.moves (h : Transition s m t) : MovesAlongArrow m s t := by
  cases h with
  | effect i hf hp => exact commandEffect_moves _ i hp
  | sequenced hf h => exact sequencerStep_moves _ hf h
  | reset => exact .inr (.resetToIdle _)
  | wrote off v hp => exact .inl (writeRegister_plState s off v)
  | still | illegal | rejected | faulted | handed | pixWritten | inWritten | outWritten | answered => exact .inl rfl

end

/-- Settles O51: a step is a transition, and a transition that changes PL_STATE takes an arrow. -/
theorem plStateMovesOnlyAlongItsArrows : Obligations.PlStateMovesOnlyAlongItsArrows := by
  intro s t hstep hne
  obtain heq | harrow := (step_transition hstep).moves
  · exact absurd heq hne
  · exact harrow

end Sys2Proof.Machine
end

section
/-! SUPPORT. The invariants (10_state.md R45, 44_pipeline.md R172, R197): each part kept by the operations that write
it, each command and each step of the sequencer keeping the whole, and the statements about them. -/

namespace Sys2Proof.Machine

/-! The parts -/

/-- The invariants of the header, the packer, the seed buffers, the instances and the host's memories (R45). -/
structure State.PartsConsistent (P : Config.Params) (s : State) : Prop where
  header : s.hdr.Consistent
  packer : s.pk.Consistent
  seed : ∀ k, (s.seed k).Consistent
  ks : ∀ k, (s.ks k).Consistent P
  memories : s.MemoriesWf

/-- The codes of a failed operation (R220, R221). -/
def failureCodes : List Code :=
  [.unsupportedHeaderVersion, .payloadTooLarge, .allocationOverflow, .imageTooSmall, .invalidSeed, .legacyUnsupported,
    .imageExhausted]

section
variable {P : Config.Params} {s t : State}

theorem State.Invariant.parts (h : s.Invariant P) : s.PartsConsistent P where
  header := h.header
  packer := h.packer
  seed k := by cases k; exacts [h.seed0, h.seed1]
  ks k := by cases k; exacts [h.ks0, h.ks1]
  memories := h.memories

theorem State.PartsConsistent.invariant (h : s.PartsConsistent P) (ho : s.OutcomeConsistent)
    (hp : s.PipelineConsistent P) : s.Invariant P where
  header := h.header
  packer := h.packer
  seed0 := h.seed .ks0
  seed1 := h.seed .ks1
  ks0 := h.ks .ks0
  ks1 := h.ks .ks1
  memories := h.memories
  outcome := ho
  pipeline := hp

/-- Outside the busy states nothing is asked of the running operation. -/
theorem pipelineConsistent_not_busy (hb : s.busy = false) : s.PipelineConsistent P := by
  unfold State.busy at hb
  unfold State.PipelineConsistent
  cases hp : s.plState <;> simp [hp, PlState.isBusy] at hb ⊢

theorem State.PartsConsistent.invariant_idle (h : s.PartsConsistent P) (hp : s.plState = .idle) : s.Invariant P :=
  h.invariant (by simp [State.OutcomeConsistent, State.busy, hp, PlState.isBusy])
    (pipelineConsistent_not_busy (by rw [State.busy, hp]; rfl))

theorem State.PartsConsistent.invariant_done (h : s.PartsConsistent P) (hp : s.plState = .done) (hc : s.code = .ok) :
    s.Invariant P :=
  h.invariant (by simp [State.OutcomeConsistent, hp, hc]) (pipelineConsistent_not_busy (by rw [State.busy, hp]; rfl))

theorem State.PartsConsistent.invariant_aborted (h : s.PartsConsistent P) (hp : s.plState = .aborted)
    (hc : s.code = .aborted) : s.Invariant P :=
  h.invariant (by simp [State.OutcomeConsistent, State.busy, hp, hc, PlState.isBusy])
    (pipelineConsistent_not_busy (by rw [State.busy, hp]; rfl))

theorem State.PartsConsistent.invariant_failed (h : s.PartsConsistent P) (hp : s.plState = .failed)
    (hc : s.code ∈ failureCodes) : s.Invariant P :=
  h.invariant ⟨by simp [State.busy, hp, PlState.isBusy], by simp [hp], by simp [hp], fun _ => hc⟩
    (pipelineConsistent_not_busy (by rw [State.busy, hp]; rfl))

/-- A busy state is consistent with the code OK alone. -/
theorem State.PartsConsistent.invariant_busy (h : s.PartsConsistent P) (hb : s.busy = true) (hc : s.code = .ok)
    (hp : s.PipelineConsistent P) : s.Invariant P :=
  h.invariant ⟨fun _ => hc, fun _ => hc, fun ha => by simp [State.busy, ha, PlState.isBusy] at hb,
    fun hf => by simp [State.busy, hf, PlState.isBusy] at hb⟩ hp

end

/-! The header -/

theorem empty_consistent : Header.empty.Consistent := by
  unfold Header.Consistent
  decide

theorem completeHeader_consistent (v : Byte) (n : Word) : (completeHeader v n).Consistent := by
  unfold Header.Consistent completeHeader
  simp

/-- The parser's first byte leaves the size 0 and counts 1, and a later byte counts on to 5 (R111). -/
theorem hdrAdd_consistent (b : Byte) {h : Header} (hc : h.Consistent) : (hdrAdd b h).Consistent := by
  obtain ⟨hcomplete, hunsup, hopen, hsize⟩ := hc
  by_cases hclosed : h.unsup = true ∨ h.complete = true
  · rw [hdrAdd_closed b hclosed]
    exact ⟨hcomplete, hunsup, hopen, hsize⟩
  obtain ⟨hu, hi⟩ : h.unsup = false ∧ h.complete = false := by simpa using hclosed
  obtain ⟨hcount, hhsize⟩ := hopen hi
  by_cases h0 : h.count = 0
  · rw [hdrAdd_first b hclosed h0]
    exact ⟨by simp [hi], by simp [hi], by simp [hhsize], fun _ => hsize (by simp [h0])⟩
  · rw [hdrAdd_later b hclosed h0]
    have hnext : (h.count + 1).toNat = h.count.toNat + 1 := by bv_omega
    refine ⟨fun h5 => ?_, by simp [hu], fun h5 => ?_, fun hle => ?_⟩
    · have h5 : h.count + 1 = 5 := of_decide_eq_true h5
      exact ⟨hu, h5, if_pos h5⟩
    · have h5 : h.count + 1 ≠ 5 := of_decide_eq_false h5
      refine ⟨?_, (if_neg h5).trans hhsize⟩
      change (h.count + 1).toNat ≤ 4
      bv_omega
    · change (h.count + 1).toNat ≤ 1 at hle
      exact absurd (by bv_omega : h.count = 0) h0

/-- A byte parsed into an open header counts one on (R111). -/
theorem hdrAdd_count (b : Byte) {h : Header} (hu : h.unsup = false) (hi : h.complete = false)
    (hcount : h.count.toNat ≤ 4) : (hdrAdd b h).count.toNat = h.count.toNat + 1 := by
  have hclosed : ¬ (h.unsup = true ∨ h.complete = true) := by simp [hu, hi]
  by_cases h0 : h.count = 0
  · rw [hdrAdd_first b hclosed h0, h0]
    rfl
  · rw [hdrAdd_later b hclosed h0]
    change (h.count + 1).toNat = _
    bv_omega

/-! The seed buffers and the instances -/

theorem seedStage_empty_consistent : SeedStage.empty.Consistent :=
  ⟨by decide, fun _ j _ => empty_getElem j⟩

/-- A push fills the byte at the count and leaves the zeros above (R36, R132). -/
theorem push_consistent (b : Byte) {x : SeedStage} (h : x.Consistent) : (x.push b).Consistent := by
  obtain ⟨h17, hzero⟩ := h
  by_cases hlt : x.cnt.toNat < 16
  · have hcnt : (x.push b).cnt = x.cnt + 1 := by rw [push_cnt, if_pos hlt]
    have hnat : (x.cnt + 1).toNat = x.cnt.toNat + 1 := by bv_omega
    refine ⟨by rw [hcnt, hnat]; omega, fun _ j hj => ?_⟩
    rw [hcnt, hnat] at hj
    rw [push_getElem, if_neg (by omega)]
    exact hzero (by omega) j (by omega)
  · have hcnt : (x.push b).cnt = 17 := by rw [push_cnt, if_neg hlt]
    exact ⟨by rw [hcnt]; decide, fun hle => absurd hle (by rw [hcnt]; decide)⟩

section
variable {P : Config.Params}

theorem unseeded_consistent : Keystream.unseeded.Consistent P := fun h => absurd h (by decide)

theorem constructed_consistent (sl : Config.Slice) : (constructed P sl).Consistent P :=
  fun _ hP => constructed_inRange P hP sl

theorem tick_consistent {x : Keystream} (h : x.Consistent P) : x.tick.Consistent P :=
  fun hv hP => tick_inRange x (h hv hP)

theorem nextByte_consistent {x : Keystream} (h : x.Consistent P) : x.nextByte.2.Consistent P := fun hv hP => by
  rw [nextByte_snd]
  exact iterate_tick_inRange 8 x (h (by simpa using hv) hP)

variable {s : State}

theorem ksNextByte_ks_consistent (k : KsId) (h : ∀ j, (s.ks j).Consistent P) (j : KsId) :
    ((ksNextByte P k s).2.ks j).Consistent P := by
  obtain he | he := ksNextByte_ks P k j s <;> rw [he]
  · exact h j
  · exact nextByte_consistent (h j)

theorem maskByte_ks_consistent (k : KsId) (b : Byte) (h : ∀ j, (s.ks j).Consistent P) (j : KsId) :
    ((maskByte P k b s).2.ks j).Consistent P := by
  rw [maskByte_eq]
  dsimp only
  split
  · exact ksNextByte_ks_consistent k h j
  · exact h j

theorem construct_ks_consistent (k : KsId) (h : ∀ j, (s.ks j).Consistent P) (j : KsId) :
    ((construct P k s).ks j).Consistent P := by
  rw [construct_ks]
  split
  · exact constructed_consistent _
  · exact h j

end

/-! The packer -/

theorem fresh_consistent : Packer.fresh.Consistent := ⟨fun _ => rfl, by decide⟩

/-- A packer with a direction and at most two pairs. -/
theorem packer_consistent {p : Packer} (hm : p.mode ≠ .unset) (hq : p.q.length ≤ 2) : p.Consistent :=
  ⟨fun h => absurd h hm, hq⟩

section
variable (b : Byte) (s : State)

/-- Draining leaves at most two pairs (R163). -/
theorem pkEncByte_q_length : (pkEncByte b s).pk.q.length ≤ 2 := by
  rw [pkEncByte_pk]
  simp only [List.length_drop, List.length_append, pairsOfByte_length, needEnc, State.occ]
  omega

theorem pkEncFlush_q : (pkEncFlush s).pk.q = [] := by rw [pkEncFlush_pk]

/-- A byte taken from at most two pairs and the pixels read leaves at most two pairs (R165). -/
theorem pkDecByte_q_length (h : s.pk.q.length ≤ 2) : (pkDecByte s).2.pk.q.length ≤ 2 := by
  obtain ⟨-, -, hlen⟩ := filled_counts s
  have hocc : s.occ ≤ 2 := h
  rw [pkDecByte_snd]
  change (s.filled.q.drop 4).length ≤ 2
  rw [List.length_drop, hlen, needDec]
  split_ifs <;> omega

end

/-! The primitive commands -/

section
variable {P : Config.Params} {s : State}

theorem State.PartsConsistent.succeed (h : s.PartsConsistent P) : (succeed s).PartsConsistent P :=
  { h with }

theorem State.PartsConsistent.raiseError (h : s.PartsConsistent P) (c : Code) : (raiseError c s).PartsConsistent P :=
  { h with }

theorem State.PartsConsistent.withHeader (h : s.PartsConsistent P) {x : Header} (hx : x.Consistent) :
    State.PartsConsistent P { s with hdr := x } :=
  { h with header := hx }

theorem State.PartsConsistent.withPacker (h : s.PartsConsistent P) {x : Packer} (hx : x.Consistent) :
    State.PartsConsistent P { s with pk := x } :=
  { h with packer := hx }

theorem State.PartsConsistent.setSeed (h : s.PartsConsistent P) (k : KsId) {x : SeedStage} (hx : x.Consistent) :
    (s.setSeed k x).PartsConsistent P where
  header := by simpa using h.header
  packer := by simpa using h.packer
  seed j := by
    by_cases hj : j = k
    · rw [hj, setSeed_seed]
      exact hx
    · rw [setSeed_seed_other _ _ _ _ hj]
      exact h.seed j
  ks j := by simpa using h.ks j
  memories := by simpa [State.MemoriesWf] using h.memories

theorem State.PartsConsistent.setKs (h : s.PartsConsistent P) (k : KsId) {x : Keystream} (hx : x.Consistent P) :
    (s.setKs k x).PartsConsistent P where
  header := by simpa using h.header
  packer := by simpa using h.packer
  seed j := by simpa using h.seed j
  ks j := by
    by_cases hj : j = k
    · rw [hj, setKs_ks]
      exact hx
    · rw [setKs_ks_other _ _ _ _ hj]
      exact h.ks j
  memories := by simpa [State.MemoriesWf] using h.memories

theorem State.PartsConsistent.ksNextByte (h : s.PartsConsistent P) (k : KsId) :
    (ksNextByte P k s).2.PartsConsistent P where
  header := by rw [ksNextByte_frame]; exact h.header
  packer := by rw [ksNextByte_frame]; exact h.packer
  seed j := by rw [ksNextByte_seed]; exact h.seed j
  ks := ksNextByte_ks_consistent k h.ks
  memories := by rw [ksNextByte_frame]; exact h.memories

theorem State.PartsConsistent.construct (h : s.PartsConsistent P) (k : KsId) :
    (construct P k s).PartsConsistent P where
  header := by rw [construct_frame]; exact h.header
  packer := by rw [construct_frame]; exact h.packer
  seed j := by rw [construct_seed]; exact h.seed j
  ks := construct_ks_consistent k h.ks
  memories := by rw [construct_frame]; exact h.memories

theorem State.PartsConsistent.withPixels (h : s.PartsConsistent P) {x : Packer} {m : Memory} (hx : x.Consistent)
    (hm : m.wf) : State.PartsConsistent P { s with pk := x, pix := m } where
  header := h.header
  packer := hx
  seed := h.seed
  ks := h.ks
  memories := by
    obtain ⟨-, hin, hout⟩ := h.memories
    exact ⟨hm, hin, hout⟩

theorem State.PartsConsistent.ofPackerEffect (h : s.PartsConsistent P) {f : State → State} {d : PkMode} {n : Nat}
    (hf : State.PartsConsistent P { f s with pk := { (f s).pk with mode := d } }) :
    (packerEffect d n f s).PartsConsistent P := by
  obtain ⟨-, he⟩ | ⟨-, -, he⟩ | ⟨-, -, he⟩ := packerEffect_cases d n f s <;> rw [he]
  · exact h.raiseError _
  · exact h.raiseError _
  · exact hf.succeed

theorem State.PartsConsistent.pkEncByte (h : s.PartsConsistent P) (b : Byte) :
    State.PartsConsistent P { pkEncByte b s with pk := { (pkEncByte b s).pk with mode := .enc } } := by
  obtain ⟨hpix, -, -⟩ := h.memories
  exact h.withPixels (packer_consistent (by simp) (pkEncByte_q_length b s)) (drainPairs_wf _ _ _ hpix)

theorem State.PartsConsistent.pkEncFlush (h : s.PartsConsistent P) :
    State.PartsConsistent P { pkEncFlush s with pk := { (pkEncFlush s).pk with mode := .enc } } := by
  obtain ⟨hpix, -, -⟩ := h.memories
  have hq : (Machine.pkEncFlush s).pk.q.length ≤ 2 := by
    rw [pkEncFlush_q]
    exact Nat.zero_le 2
  exact h.withPixels (packer_consistent (by simp) hq) (flushPairs_wf _ _ _ hpix)

theorem State.PartsConsistent.pkDecByte (h : s.PartsConsistent P) (b : Byte) :
    State.PartsConsistent P
      { (pkDecByte s).2 with result := b, pk := { (pkDecByte s).2.pk with mode := .dec } } := by
  obtain ⟨-, hlen⟩ := h.packer
  have hx : Packer.Consistent { (Machine.pkDecByte s).2.pk with mode := .dec } :=
    packer_consistent (by simp) (pkDecByte_q_length s hlen)
  rw [pkDecByte_frame]
  exact { h.withPacker hx with }

theorem State.PartsConsistent.ksSeed (h : s.PartsConsistent P) (k : KsId) : (ksSeedEffect P k s).PartsConsistent P := by
  unfold ksSeedEffect
  split
  · exact (h.construct k).succeed
  · exact h.raiseError _

theorem State.PartsConsistent.ksBit (h : s.PartsConsistent P) (k : KsId) : (ksBitEffect P k s).PartsConsistent P := by
  obtain ⟨-, he⟩ | ⟨-, -, he⟩ | ⟨-, -, he⟩ := ksBitEffect_cases P k s <;> rw [he]
  · exact h.raiseError _
  · exact h.raiseError _
  · exact { h.setKs k (tick_consistent (h.ks k)) with }

theorem State.PartsConsistent.ksByte (h : s.PartsConsistent P) (k : KsId) : (ksByteEffect P k s).PartsConsistent P := by
  unfold ksByteEffect
  split
  · exact { h.ksNextByte k with }
  · exact h.raiseError _

theorem State.PartsConsistent.ksXor (h : s.PartsConsistent P) (k : KsId) (b : Byte) :
    (ksXorEffect P k b s).PartsConsistent P := by
  unfold ksXorEffect
  split
  · exact { h.ksNextByte k with }
  · exact h.raiseError _

theorem State.PartsConsistent.hdrSet (h : s.PartsConsistent P) (v : Byte) : (hdrSetEffect v s).PartsConsistent P := by
  unfold hdrSetEffect
  split
  · exact h.raiseError _
  · exact (h.withHeader (completeHeader_consistent v s.size)).succeed

/-- Every primitive command keeps the parts. -/
theorem State.PartsConsistent.primitive (h : s.PartsConsistent P) {i : Instr} (hi : i.primitive = true) :
    (commandEffect P i s).PartsConsistent P := by
  cases i with
  | seedPush k b => exact (h.setSeed k (push_consistent b (h.seed k))).succeed
  | seedClear k => exact (h.setSeed k seedStage_empty_consistent).succeed
  | ksSeed k => exact h.ksSeed k
  | ksBit k => exact h.ksBit k
  | ksByte k => exact h.ksByte k
  | ksXor k b => exact h.ksXor k b
  | hdrNew => exact (h.withHeader empty_consistent).succeed
  | hdrAdd b => exact (h.withHeader (hdrAdd_consistent b h.header)).succeed
  | hdrSet v => exact h.hdrSet v
  | hdrByte j => exact { h with }
  | pkReset => exact (h.withPacker fresh_consistent).succeed
  | pkEncByte b => exact h.ofPackerEffect (h.pkEncByte b)
  | pkEncFlush => exact h.ofPackerEffect h.pkEncFlush
  | pkDecByte =>
    exact h.ofPackerEffect (f := fun s => { (Machine.pkDecByte s).2 with result := (Machine.pkDecByte s).1 })
      (h.pkDecByte _)
  | nop | plEncrypt | plDecrypt | plCancel | plAck => nomatch hi

end

/-! The pipeline commands -/

section
variable {P : Config.Params} {s : State}

/-- The start checks of PL_ENCRYPT fail with the codes of a failed operation (R184, R221). -/
theorem encryptCheck_code {v : Byte} {c : Code} (h : encryptCheck P v s = some c) :
    c ∈ failureCodes := by
  rw [encryptCheck_eq] at h
  split_ifs at h <;> cases h <;> decide

/-- An encrypt whose checks have passed fits the image (R184, R199). -/
theorem capacity_of_encryptCheck_none {v : Byte} (h : encryptCheck P v s = none) : 5 + s.size.toNat ≤ s.cap := by
  rw [encryptCheck_eq] at h
  split_ifs at h with _ _ _ _ hcap
  exact not_lt.mp hcap

theorem State.PartsConsistent.constructWhenMasking (h : s.PartsConsistent P) (k : KsId) :
    (constructWhenMasking P k s).PartsConsistent P := by
  unfold Machine.constructWhenMasking
  split
  · exact h.construct k
  · exact h

theorem State.PartsConsistent.constructPayloadKs (h : s.PartsConsistent P) (v : Byte) :
    (constructPayloadKs P v s).PartsConsistent P := by
  unfold Machine.constructPayloadKs
  split
  · exact h.constructWhenMasking .ks1
  · exact h

theorem State.PartsConsistent.startEncrypt (h : s.PartsConsistent P) (v : Byte) :
    (startEncrypt P v s).PartsConsistent P := by
  have hx : Packer.Consistent { Packer.fresh with mode := .enc } := packer_consistent (by simp) (Nat.zero_le 2)
  have hstart := (h.withHeader (completeHeader_consistent v s.size)).withPacker hx
  refine .constructPayloadKs (.constructWhenMasking ?_ .ks0) v
  exact { hstart with }

theorem State.PartsConsistent.startDecrypt (h : s.PartsConsistent P) : (startDecrypt P s).PartsConsistent P := by
  have hx : Packer.Consistent { Packer.fresh with mode := .dec } := packer_consistent (by simp) (Nat.zero_le 2)
  have hstart := (h.withHeader empty_consistent).withPacker hx
  refine .constructWhenMasking ?_ .ks0
  exact { hstart with }

theorem plEncryptEffect_invariant (v : Byte) (h : s.PartsConsistent P) : (plEncryptEffect P v s).Invariant P := by
  cases hc : encryptCheck P v s with
  | some c =>
    rw [plEncryptEffect_of_check_some hc]
    exact State.PartsConsistent.invariant_failed { h with } rfl (encryptCheck_code hc)
  | none =>
    have hcap := capacity_of_encryptCheck_none hc
    rw [plEncryptEffect_of_check_none hc]
    refine (h.startEncrypt v).invariant_busy ?_ ?_ ?_ <;> rw [startEncrypt_eq]
    · rfl
    · exact ⟨⟨rfl, rfl, hcap, rfl⟩, Nat.zero_le 4⟩

theorem plDecryptEffect_invariant (h : s.PartsConsistent P) : (plDecryptEffect P s).Invariant P := by
  rw [plDecryptEffect_eq]
  split
  · exact State.PartsConsistent.invariant_failed { h with } rfl (show Code.invalidSeed ∈ failureCodes by decide)
  · refine h.startDecrypt.invariant_busy ?_ ?_ ?_ <;> rw [startDecrypt_eq]
    · rfl
    · exact ⟨⟨rfl, rfl, Nat.zero_le _⟩, rfl, rfl, rfl⟩

theorem plCancelEffect_invariant (h : s.Invariant P) : (plCancelEffect s).Invariant P := by
  unfold plCancelEffect
  split
  · exact State.PartsConsistent.invariant_aborted { h.parts with } rfl rfl
  · exact h

/-- Every command that the gate lets through keeps the invariants. -/
theorem commandEffect_invariant (i : Instr) (h : s.Invariant P) (hp : permitted i s.plState = true) :
    (commandEffect P i s).Invariant P := by
  by_cases hprim : i.primitive = true
  · obtain ⟨-, hframe⟩ := primitiveOutcome_commandEffect P i s hprim
    have hidle : s.plState = .idle := plState_idle_of_permitted hp
      (by refine ⟨?_, ?_, ?_⟩ <;> rintro rfl <;> cases hprim)
    exact (h.parts.primitive hprim).invariant_idle (hframe.plState.trans hidle)
  · cases i with
    | nop => exact h
    | plEncrypt v => exact plEncryptEffect_invariant v h.parts
    | plDecrypt => exact plDecryptEffect_invariant h.parts
    | plCancel => exact plCancelEffect_invariant h
    | plAck => exact State.PartsConsistent.invariant_idle { h.parts with } rfl
    | _ => exact absurd rfl hprim

end

/-! The sequencer -/

/-- What a step of the sequencer keeps, besides the invariants: the pixels and the bytes of OUT that do not exist, and
IN (R71, R197). -/
structure SafeMove (P : Config.Params) (s t : State) : Prop where
  invariant : t.Invariant P
  pixels : ∀ p, s.npix ≤ p → t.pix.readPixel p = s.pix.readPixel p
  output : ∀ i, s.hdr.size.toNat ≤ i → t.output.read i = s.output.read i
  input : t.input = s.input

/-- The step answers a next state, and moves safely. -/
def MovesSafely (P : Config.Params) (s : State) (r : Result) : Prop := ∃ t, r = .next t ∧ SafeMove P s t

section
variable {P : Config.Params} {s : State}

theorem movesSafely_next {t : State} (h : SafeMove P s t) : MovesSafely P s (.next t) := ⟨t, rfl, h⟩

theorem SafeMove.refl (h : s.Invariant P) : SafeMove P s s := ⟨h, fun _ _ => rfl, fun _ _ => rfl, rfl⟩

/-! Encrypt -/

/-- While bytes are left to pack, the pixels that the next one needs exist (R172, R197). -/
theorem State.EncryptPosition.needEnc_le (h : s.EncryptPosition) (hc : s.byteCnt.toNat < 5 + s.size.toNat) :
    s.pk.pixIdx.toNat + needEnc s.occ ≤ s.npix := by
  obtain ⟨-, hpos, hcap, -⟩ := h
  have hnpix := cap_le_npix s
  unfold needEnc
  omega

/-- The pixel that the last pairs need exists (R172, R197). -/
theorem State.EncryptPosition.needFlush_le (h : s.EncryptPosition) (hc : s.byteCnt.toNat = 5 + s.size.toNat) :
    s.pk.pixIdx.toNat + needFlush s.occ ≤ s.npix := by
  obtain ⟨-, hpos, hcap, -⟩ := h
  have hnpix := cap_le_npix s
  unfold needFlush
  split <;> omega

/-- BYTE_CNT counts one byte while there are bytes to pack. -/
theorem State.EncryptPosition.byteCnt_succ (h : s.EncryptPosition) (hc : s.byteCnt.toNat < 5 + s.size.toNat) :
    (s.byteCnt + 1).toNat = s.byteCnt.toNat + 1 := by
  obtain ⟨-, -, hcap, -⟩ := h
  exact toNat_add_ofNat (n := 1) (by have := cap_lt s; omega)

/-- Packing a byte moves the packer one byte on (R172). -/
theorem State.EncryptPosition.packMasked (h : s.EncryptPosition) (hc : s.byteCnt.toNat < 5 + s.size.toNat) (k : KsId)
    (b : Byte) : (packMasked P k b s).EncryptPosition := by
  have hneed := h.needEnc_le hc
  have hcnt := h.byteCnt_succ hc
  obtain ⟨hmode, hpos, hcap, hhdr⟩ := h
  rw [packMasked_frame]
  refine ⟨by rw [pkEncByte_pk]; exact hmode, ?_, hcap, hhdr⟩
  change 3 * (pkEncByte _ s).pk.pixIdx.toNat + (pkEncByte _ s).pk.q.length = 4 * (s.byteCnt + 1).toNat
  rw [hcnt, pkEncByte_pk]
  change 3 * (s.pk.pixIdx + BitVec.ofNat 32 (needEnc s.occ)).toNat + (List.drop _ _).length = _
  rw [toNat_add_ofNat (lt_of_le_of_lt hneed (npix_lt s)), List.length_drop, List.length_append, pairsOfByte_length]
  change 3 * (s.pk.pixIdx.toNat + needEnc s.occ) + (s.occ + 4 - 3 * needEnc s.occ) = _
  have hle : 3 * needEnc s.occ ≤ s.occ + 4 := Nat.mul_div_le (s.occ + 4) 3
  omega

theorem State.PartsConsistent.packMasked (h : s.PartsConsistent P) (hm : s.pk.mode = .enc) (k : KsId) (b : Byte) :
    (packMasked P k b s).PartsConsistent P := by
  obtain ⟨hpix, hin, hout⟩ := h.memories
  have hmode : (Machine.pkEncByte (maskByte P k b s).1 s).pk.mode ≠ .unset := by
    rw [pkEncByte_pk]
    exact fun hu => absurd (hm.symm.trans hu) (by simp)
  rw [packMasked_frame]
  exact ⟨h.header, packer_consistent hmode (pkEncByte_q_length _ s), h.seed,
    fun j => by have := maskByte_ks_consistent k b h.ks j; cases j <;> exact this,
    drainPairs_wf _ _ _ hpix, hin, hout⟩

/-- A byte packed within the image keeps the parts and the position, and writes no pixel, byte of OUT or byte of IN
that does not exist. -/
theorem packMasked_safe (h : s.Invariant P) (hb : s.busy = true) (hpos : s.EncryptPosition)
    (hc : s.byteCnt.toNat < 5 + s.size.toNat) (k : KsId) (b : Byte) (p : PlState)
    (hbusy : p.isBusy = true) (hpipe : State.PipelineConsistent P { packMasked P k b s with plState := p }) :
    SafeMove P s { packMasked P k b s with plState := p } := by
  obtain ⟨hcode, -⟩ := h.outcome
  have hneed := hpos.needEnc_le hc
  obtain ⟨hmode, -⟩ := hpos
  have hframe := packMasked_frame P k b s
  have hpix : (packMasked P k b s).pix = (pkEncByte (maskByte P k b s).1 s).pix := by rw [hframe]
  have hout : (packMasked P k b s).output = s.output := by rw [hframe]
  have hin : (packMasked P k b s).input = s.input := by rw [hframe]
  have hok : (packMasked P k b s).code = .ok := by rw [hframe]; exact hcode hb
  refine ⟨State.PartsConsistent.invariant_busy { h.parts.packMasked hmode k b with } hbusy hok hpipe, fun q hq => ?_,
    fun i _ => congrArg (Memory.read · i) hout, hin⟩
  change (packMasked P k b s).pix.readPixel q = _
  rw [hpix]
  exact pkEncByte_readPixel_outside hneed (.inr (hneed.trans hq))

theorem pipeline_encHdr (hp : s.plState = .encHdr) :
    s.PipelineConsistent P ↔ s.EncryptPosition ∧ s.byteCnt.toNat ≤ 4 := by
  unfold State.PipelineConsistent
  rw [hp]

theorem pipeline_encPay (hp : s.plState = .encPay) :
    s.PipelineConsistent P ↔
      s.EncryptPosition ∧ 5 ≤ s.byteCnt.toNat ∧ s.byteCnt.toNat < 5 + s.size.toNat := by
  unfold State.PipelineConsistent
  rw [hp]

theorem pipeline_encFlush (hp : s.plState = .encFlush) :
    s.PipelineConsistent P ↔ s.EncryptPosition ∧ s.byteCnt.toNat = 5 + s.size.toNat := by
  unfold State.PipelineConsistent
  rw [hp]

theorem pipeline_decHdr (hp : s.plState = .decHdr) :
    s.PipelineConsistent P ↔
      s.DecryptPosition ∧ s.byteCnt.toNat = s.hdr.count.toNat ∧ s.hdr.unsup = false ∧ s.hdr.complete = false := by
  unfold State.PipelineConsistent
  rw [hp]

theorem pipeline_decAlloc (hp : s.plState = .decAlloc) :
    s.PipelineConsistent P ↔
      s.DecryptPosition ∧ s.byteCnt.toNat = 5 ∧ s.hdr.complete = true ∧ 5 + sval P s.hdr.size ≤ (s.cap : Int) := by
  unfold State.PipelineConsistent
  rw [hp]

theorem pipeline_decPay (hp : s.plState = .decPay) :
    s.PipelineConsistent P ↔
      s.DecryptPosition ∧ s.hdr.complete = true ∧ s.outSize = some s.hdr.size.toNat ∧ 5 ≤ s.byteCnt.toNat ∧
        s.byteCnt.toNat < 5 + s.hdr.size.toNat ∧ 5 + s.hdr.size.toNat ≤ s.cap := by
  unfold State.PipelineConsistent
  rw [hp]

theorem busy_of_plState {p : PlState} (hp : s.plState = p) (hb : p.isBusy = true) : s.busy = true := by
  rw [State.busy, hp, hb]

theorem stepEncHdr_safe (h : s.Invariant P) (hp : s.plState = .encHdr) : MovesSafely P s (stepEncHdr P s) := by
  obtain ⟨hpos, h4⟩ := (pipeline_encHdr hp).mp h.pipeline
  have hc : s.byteCnt.toNat < 5 + s.size.toNat := by omega
  have hcnt := hpos.byteCnt_succ hc
  have hnext := hpos.packMasked (P := P) hc .ks0 (hdrBuf s.hdr s.byteCnt.toNat)
  have hsize : (packMasked P .ks0 (hdrBuf s.hdr s.byteCnt.toNat) s).size.toNat = s.size.toNat := by
    rw [packMasked_frame]
  have hcount : (packMasked P .ks0 (hdrBuf s.hdr s.byteCnt.toNat) s).byteCnt.toNat = s.byteCnt.toNat + 1 := by
    rw [packMasked_eq, hcnt]
  rw [stepEncHdr_eq P h4 (hpos.needEnc_le hc)]
  refine movesSafely_next (packMasked_safe h (busy_of_plState hp rfl) hpos hc _ _ _ ?_ ?_) <;>
    unfold afterHeaderByte <;> split_ifs with hj hpay
  · rfl
  · rfl
  · rfl
  · have hpos : 0 < s.size.toNat := by simpa [BitVec.toNat_eq, Nat.pos_iff_ne_zero] using hpay
    refine (pipeline_encPay rfl).mpr ⟨hnext, ?_, ?_⟩ <;> dsimp only <;> omega
  · refine (pipeline_encFlush rfl).mpr ⟨hnext, ?_⟩
    dsimp only
    omega
  · refine (pipeline_encHdr rfl).mpr ⟨hnext, ?_⟩
    dsimp only
    omega

theorem stepEncPay_safe (h : s.Invariant P) (hp : s.plState = .encPay) : MovesSafely P s (stepEncPay P s) := by
  obtain ⟨hpos, h5, hc⟩ := (pipeline_encPay hp).mp h.pipeline
  have ⟨_, _, hcap, _⟩ := hpos
  have hcnt := hpos.byteCnt_succ hc
  have hnext := hpos.packMasked (P := P) hc s.psel (s.input.read (s.byteCnt.toNat - 5))
  have hsize : (packMasked P s.psel (s.input.read (s.byteCnt.toNat - 5)) s).size.toNat = s.size.toNat := by
    rw [packMasked_frame]
  have hcount : (packMasked P s.psel (s.input.read (s.byteCnt.toNat - 5)) s).byteCnt.toNat = s.byteCnt.toNat + 1 := by
    rw [packMasked_eq, hcnt]
  rw [stepEncPay_eq P h5 hc hcap (hpos.needEnc_le hc)]
  refine movesSafely_next (packMasked_safe h (busy_of_plState hp rfl) hpos hc _ _ _ ?_ ?_) <;> split_ifs with hlast
  · rfl
  · rfl
  · refine (pipeline_encFlush rfl).mpr ⟨hnext, ?_⟩
    dsimp only
    omega
  · refine (pipeline_encPay rfl).mpr ⟨hnext, ?_, ?_⟩ <;> dsimp only <;> omega

theorem stepEncFlush_safe (h : s.Invariant P) (hp : s.plState = .encFlush) : MovesSafely P s (stepEncFlush s) := by
  obtain ⟨hpos, hc⟩ := (pipeline_encFlush hp).mp h.pipeline
  obtain ⟨hpix, hin, hout⟩ := h.memories
  have hneed := hpos.needFlush_le hc
  have hx : (pkEncFlush s).pk.Consistent := ⟨fun _ => pkEncFlush_q s, by rw [pkEncFlush_q]; exact Nat.zero_le 2⟩
  rw [stepEncFlush_eq hneed]
  refine movesSafely_next ⟨State.PartsConsistent.invariant_done ?_ rfl rfl,
    fun q hq => pkEncFlush_readPixel_outside (.inr (hneed.trans hq)), fun _ _ => rfl, rfl⟩
  exact { h.parts.withPixels hx (flushPairs_wf _ _ _ hpix) with }

/-! Decrypt -/

/-- While the image is long enough for one more byte, the pixels that it needs exist (R172, R197). -/
theorem State.DecryptPosition.needDec_le (h : s.DecryptPosition) (hfits : 4 * (s.byteCnt.toNat + 1) ≤ 3 * s.npix) :
    s.pk.pixIdx.toNat + needDec s.occ ≤ s.npix := by
  obtain ⟨-, hpos, hidx⟩ := h
  unfold needDec
  split_ifs <;> omega

theorem State.DecryptPosition.byteCnt_succ (h : s.DecryptPosition) :
    (s.byteCnt + 1).toNat = s.byteCnt.toNat + 1 := by
  obtain ⟨-, hpos, hidx⟩ := h
  exact toNat_add_ofNat (n := 1) (by have := npix_lt s; omega)

/-- The packer after a byte has been unpacked (R172). -/
theorem State.DecryptPosition.pkDecByte (h : s.DecryptPosition)
    (hr : s.pk.pixIdx.toNat + needDec s.occ ≤ s.npix) :
    (pkDecByte s).2.pk.mode = .dec ∧ (pkDecByte s).2.pk.pixIdx.toNat ≤ s.npix ∧
      4 * (s.byteCnt.toNat + 1) + (pkDecByte s).2.pk.q.length = 3 * (pkDecByte s).2.pk.pixIdx.toNat := by
  obtain ⟨hmode, hpos, -⟩ := h
  obtain ⟨-, -, hlen⟩ := filled_counts s
  have hfour := four_le_filled s
  have hidx := toNat_add_ofNat (lt_of_le_of_lt hr (npix_lt s))
  rw [pkDecByte_snd]
  refine ⟨hmode, by rw [hidx]; exact hr, ?_⟩
  rw [hidx, List.length_drop]
  omega

/-- A state that has the packer after a byte, and BYTE_CNT counting it, stands one byte on. -/
theorem State.DecryptPosition.unpacked {t : State} (h : s.DecryptPosition)
    (hr : s.pk.pixIdx.toNat + needDec s.occ ≤ s.npix) (hpk : t.pk = (Machine.pkDecByte s).2.pk)
    (hcnt : t.byteCnt = s.byteCnt + 1) (hnpix : t.npix = s.npix) : t.DecryptPosition := by
  obtain ⟨hmode, hidx, hpos⟩ := h.pkDecByte hr
  refine ⟨by rw [hpk]; exact hmode, ?_, by rw [hpk, hnpix]; exact hidx⟩
  rw [State.occ, hpk, hcnt, h.byteCnt_succ]
  exact hpos

theorem State.PartsConsistent.unpackUnmasked (h : s.PartsConsistent P) (hm : s.pk.mode = .dec) (k : KsId) :
    (unpackUnmasked P k s).2.PartsConsistent P := by
  obtain ⟨-, hlen⟩ := h.packer
  have hmode : (Machine.pkDecByte s).2.pk.mode ≠ .unset := by
    rw [pkDecByte_snd]
    exact fun hu => absurd (hm.symm.trans hu) (by simp)
  have hks : ∀ j, ((Machine.pkDecByte s).2.ks j).Consistent P := fun j => by
    have := h.ks j
    rw [pkDecByte_frame]
    cases j <;> exact this
  have hmask := maskByte_ks_consistent (P := P) k (Machine.pkDecByte s).1 hks
  rw [unpackUnmasked_frame]
  exact ⟨h.header, packer_consistent hmode (pkDecByte_q_length s hlen), h.seed,
    fun j => by have := hmask j; cases j <;> exact this, h.memories⟩

/-- A size read without sign is itself; read as signed it is the same unless negative (R189). -/
theorem sval_eq_toNat {n : Word} (h : 0 ≤ sval P n) : sval P n = n.toNat := by
  unfold sval at h ⊢
  split_ifs with hs
  · rw [if_pos hs, BitVec.toInt_eq_toNat_cond] at h
    rw [BitVec.toInt_eq_toNat_cond]
    split_ifs at h ⊢ <;> omega
  · rfl

theorem stepDecHdr_safe (h : s.Invariant P) (hp : s.plState = .decHdr) : MovesSafely P s (stepDecHdr P s) := by
  obtain ⟨hpos, hcnt, hunsup, hopen⟩ := (pipeline_decHdr hp).mp h.pipeline
  obtain ⟨hcode, -⟩ := h.outcome
  have hok : s.code = .ok := hcode (busy_of_plState hp rfl)
  by_cases hr : s.pk.pixIdx.toNat + needDec s.occ ≤ s.npix
  · have hframe := unpackUnmasked_frame P .ks0 s
    have hpk : (unpackUnmasked P .ks0 s).2.pk = (pkDecByte s).2.pk := by rw [hframe]
    have hnpix : (unpackUnmasked P .ks0 s).2.npix = s.npix := by rw [hframe]; rfl
    have hcap : (unpackUnmasked P .ks0 s).2.cap = s.cap := by rw [hframe]; rfl
    have ⟨hmode, _⟩ := hpos
    obtain ⟨-, -, hcount4, -⟩ := h.header
    have hheader := hdrAdd_consistent (unpackUnmasked P .ks0 s).1 h.header
    have hcount := hdrAdd_count (unpackUnmasked P .ks0 s).1 hunsup hopen (hcount4 hopen).1
    have hbyte := hpos.byteCnt_succ
    have hparts := (h.parts.unpackUnmasked hmode .ks0).withHeader hheader
    rw [stepDecHdr_eq hp hr]
    refine movesSafely_next ⟨?_, fun _ _ => by dsimp only; rw [hframe], fun _ _ => by dsimp only; rw [hframe],
      by dsimp only; rw [hframe]⟩
    dsimp only
    generalize hdrAdd (unpackUnmasked P .ks0 s).1 s.hdr = x at *
    by_cases hu : x.unsup = true
    · simp only [hu, if_true]
      exact State.PartsConsistent.invariant_failed { hparts with } rfl
        (show Code.unsupportedHeaderVersion ∈ failureCodes by decide)
    by_cases hc : x.complete = true
    · by_cases hfits : (s.cap : Int) < 5 + sval P x.size
      · simp only [hu, hc, hfits, if_true]
        exact State.PartsConsistent.invariant_failed { hparts with } rfl
          (show Code.payloadTooLarge ∈ failureCodes by decide)
      · obtain ⟨hclosed, -⟩ := hheader
        obtain ⟨-, h5, -⟩ := hclosed hc
        simp only [hu, hc, hfits, if_true, if_false]
        refine State.PartsConsistent.invariant_busy { hparts with } rfl hok ((pipeline_decAlloc rfl).mpr
          ⟨hpos.unpacked hr hpk rfl hnpix, ?_, hc, hcap ▸ not_lt.mp hfits⟩)
        rw [h5] at hcount
        exact (hbyte.trans (congrArg (· + 1) hcnt)).trans hcount.symm
    · simp only [hu, hc]
      exact State.PartsConsistent.invariant_busy { hparts with } rfl hok ((pipeline_decHdr rfl).mpr
        ⟨hpos.unpacked hr hpk rfl hnpix, (hbyte.trans (congrArg (· + 1) hcnt)).trans hcount.symm,
          by simpa using hu, by simpa using hc⟩)
  · rw [stepDecHdr_exhausted (Nat.not_le.mp hr)]
    exact movesSafely_next ⟨State.PartsConsistent.invariant_failed { h.parts with } rfl
      (show Code.imageExhausted ∈ failureCodes by decide), fun _ _ => rfl, fun _ _ => rfl, rfl⟩

/-- The codes with which DEC_ALLOC fails are codes of a failed operation (R223). -/
theorem allocCodes_subset {c : Code} (h : c ∈ [Code.allocationOverflow, .invalidSeed, .legacyUnsupported]) :
    c ∈ failureCodes := by
  revert c
  decide

/-- Entering the payload constructs instance 1, or leaves it (R191). -/
theorem State.PartsConsistent.payloadEntered (h : s.PartsConsistent P) : (payloadEntered P s).PartsConsistent P :=
  ⟨h.header, h.packer, h.seed, fun k => by
    cases k with
    | ks0 => exact h.ks .ks0
    | ks1 =>
      change Keystream.Consistent P (if _ then _ else _)
      split_ifs
      exacts [constructed_consistent _, h.ks .ks1], h.memories⟩

theorem payloadEntered_invariant (h : s.Invariant P) (hp : s.plState = .decAlloc) (hs : 0 ≤ sval P s.hdr.size) :
    (payloadEntered P s).Invariant P := by
  obtain ⟨hpos, hcnt, hcomplete, hcap⟩ := (pipeline_decAlloc hp).mp h.pipeline
  obtain ⟨hcode, -⟩ := h.outcome
  by_cases h0 : s.hdr.size = 0
  · exact h.parts.payloadEntered.invariant_done (if_pos h0) (if_pos h0)
  · have hstate : (payloadEntered P s).plState = .decPay := if_neg h0
    have hok : (payloadEntered P s).code = .ok := (if_neg h0).trans (hcode (busy_of_plState hp rfl))
    have hlen : 0 < s.hdr.size.toNat := by simpa [BitVec.toNat_eq, Nat.pos_iff_ne_zero] using h0
    rw [sval_eq_toNat hs] at hcap
    refine h.parts.payloadEntered.invariant_busy (busy_of_plState hstate rfl) hok ((pipeline_decPay hstate).mpr
      ⟨hpos, hcomplete, rfl, ?_, ?_, ?_⟩)
    · exact hcnt.ge
    · change s.byteCnt.toNat < 5 + s.hdr.size.toNat
      omega
    · change 5 + s.hdr.size.toNat ≤ s.cap
      omega

theorem stepDecAlloc_safe (h : s.Invariant P) (hp : s.plState = .decAlloc) : MovesSafely P s (stepDecAlloc P s) := by
  obtain ⟨c, o, k, hc, he⟩ | ⟨hs, he⟩ := stepDecAlloc_cases P s <;> rw [he]
  · exact movesSafely_next ⟨State.PartsConsistent.invariant_failed { h.parts with } rfl (allocCodes_subset hc),
      fun _ _ => rfl, fun _ _ => rfl, rfl⟩
  · exact movesSafely_next ⟨payloadEntered_invariant h hp hs, fun _ _ => rfl, fun _ _ => rfl, rfl⟩

/-- The pixels that a payload byte needs exist while the payload fits the image (R197). -/
theorem needDec_le_of_cap (h : s.DecryptPosition) (hc : s.byteCnt.toNat < 5 + s.hdr.size.toNat)
    (hcap : 5 + s.hdr.size.toNat ≤ s.cap) : s.pk.pixIdx.toNat + needDec s.occ ≤ s.npix :=
  h.needDec_le (by have := cap_le_npix s; omega)

theorem stepDecPay_safe (h : s.Invariant P) (hp : s.plState = .decPay) : MovesSafely P s (stepDecPay P s) := by
  obtain ⟨hpos, hcomplete, hout, h5, hc, hcap⟩ := (pipeline_decPay hp).mp h.pipeline
  have hr := needDec_le_of_cap hpos hc hcap
  have hframe := unpackUnmasked_frame P s.psel s
  have hpk : (unpackUnmasked P s.psel s).2.pk = (pkDecByte s).2.pk := by rw [hframe]
  have hhdr : (unpackUnmasked P s.psel s).2.hdr = s.hdr := by rw [hframe]
  have hnpix : (unpackUnmasked P s.psel s).2.npix = s.npix := by rw [hframe]; rfl
  have houtSize : (unpackUnmasked P s.psel s).2.outSize = s.outSize := by rw [hframe]
  have hcapEq : (unpackUnmasked P s.psel s).2.cap = s.cap := by rw [hframe]; rfl
  have hbyte := hpos.byteCnt_succ
  have ⟨hmode, _⟩ := hpos
  obtain ⟨hcode, -⟩ := h.outcome
  have hparts := h.parts.unpackUnmasked hmode s.psel
  obtain ⟨hpix, hin, houtWf⟩ := hparts.memories
  obtain ⟨-, -, hwf⟩ := h.memories
  have hnext : State.PartsConsistent P { (unpackUnmasked P s.psel s).2 with
      output := s.output.write (s.byteCnt.toNat - 5) (unpackUnmasked P s.psel s).1 } :=
    { hparts with memories := ⟨hpix, hin, wf_write _ _ _ hwf⟩ }
  rw [stepDecPay_eq hp h5 hc hcap hout hr]
  refine movesSafely_next ⟨?_, fun _ _ => by dsimp only; rw [hframe],
    fun i hi => read_write_other _ _ _ _ (by omega), by dsimp only; rw [hframe]⟩
  dsimp only
  by_cases hlast : s.byteCnt.toNat + 1 = 5 + s.hdr.size.toNat
  · simp only [hlast, if_true]
    exact State.PartsConsistent.invariant_done { hnext with } rfl rfl
  · simp only [hlast, if_false]
    refine State.PartsConsistent.invariant_busy { hnext with } rfl (hcode (busy_of_plState hp rfl))
      ((pipeline_decPay rfl).mpr ⟨hpos.unpacked hr hpk rfl hnpix, ?_, ?_, ?_, ?_, ?_⟩)
    · exact hhdr ▸ hcomplete
    · exact houtSize.trans (hhdr ▸ hout)
    · change 5 ≤ (s.byteCnt + 1).toNat
      omega
    · dsimp only
      rw [hhdr]
      omega
    · dsimp only
      rw [hhdr]
      exact hcap.trans_eq hcapEq.symm

/-- From the invariants the sequencer faults nowhere, and its step is safe (R197). -/
theorem sequencerStep_safe (h : s.Invariant P) : MovesSafely P s (sequencerStep P s) := by
  by_cases hf : s.faultedBy = none
  · cases hp : s.plState with
    | encHdr => exact sequencerStep_encHdr P hf hp ▸ stepEncHdr_safe h hp
    | encPay => exact sequencerStep_encPay P hf hp ▸ stepEncPay_safe h hp
    | encFlush => exact sequencerStep_encFlush P hf hp ▸ stepEncFlush_safe h hp
    | decHdr => exact sequencerStep_decHdr P hf hp ▸ stepDecHdr_safe h hp
    | decAlloc => exact sequencerStep_decAlloc P hf hp ▸ stepDecAlloc_safe h hp
    | decPay => exact sequencerStep_decPay P hf hp ▸ stepDecPay_safe h hp
    | idle | done | failed | aborted =>
      rw [sequencerStep_not_busy P (by rw [State.busy, hp]; rfl)]
      exact movesSafely_next (.refl h)
  · rw [sequencerStep_faulted P s hf]
    exact movesSafely_next (.refl h)

end

/-! Every transition -/

section
variable {s t : State} {m : Mover}

/-- Nothing that the invariants speak of depends on the schedule. -/
theorem State.Invariant.dequeued {P : Config.Params} (h : s.Invariant P) : s.dequeued.Invariant P := { h with }

theorem applyReset_parts {P : Config.Params} (h : s.PartsConsistent P) : (applyReset s).PartsConsistent P where
  header := empty_consistent
  packer := fresh_consistent
  seed k := by
    rw [applyReset_seed]
    exact seedStage_empty_consistent
  ks k := by
    rw [applyReset_ks]
    exact unseeded_consistent
  memories := h.memories

theorem writeRegister_parts {P : Config.Params} (off : Nat) (v : Word) (h : s.PartsConsistent P) :
    (writeRegister s off v).PartsConsistent P := by
  unfold writeRegister
  split_ifs
  · exact { h with }
  · exact { h with }
  · exact { h with }
  · exact h

/-- A transition of a state that meets the invariants leads to one that meets them (R45). -/
theorem Transition.keeps_invariant (h : Transition s m t) (hs : s.Invariant Config.params) :
    t.Invariant Config.params := by
  obtain ⟨hpix, hin, hout⟩ := hs.memories
  cases h with
  | still => exact hs
  | effect i _ hp => exact commandEffect_invariant i hs hp
  | illegal _ hp => exact (hs.parts.raiseError _).invariant_idle hp
  | rejected | faulted | handed | answered => exact { hs with }
  | wrote off v hp =>
    exact (writeRegister_parts off v hs.parts).invariant_idle ((writeRegister_plState s off v).trans hp)
  | pixWritten p v => exact { hs with memories := ⟨wf_writePixel _ p v hpix, hin, hout⟩ }
  | inWritten i b => exact { hs with memories := ⟨hpix, wf_write _ i b hin, hout⟩ }
  | outWritten i b => exact { hs with memories := ⟨hpix, hin, wf_write _ i b hout⟩ }
  | sequenced _ hstep =>
    obtain ⟨u, hu, hsafe⟩ := sequencerStep_safe hs
    cases hu.symm.trans hstep
    exact hsafe.invariant
  | reset => exact (applyReset_parts hs.parts).invariant_idle rfl

end

/-- Settles O52. -/
theorem invariantHoldsAtReset : Obligations.InvariantHoldsAtReset := by
  have hparts : State.reset.PartsConsistent Config.params :=
    ⟨empty_consistent, fresh_consistent, fun k => by cases k <;> exact seedStage_empty_consistent,
      fun k => by cases k <;> exact unseeded_consistent, ⟨wf_nil, wf_nil, wf_nil⟩⟩
  exact hparts.invariant_idle rfl

/-- Settles O53: a step is one of the transitions, and each keeps the invariants. -/
theorem everyStepKeepsTheInvariant : Obligations.EveryStepKeepsTheInvariant :=
  fun _ _ hs hstep => (step_transition hstep).keeps_invariant hs.dequeued

/-! Faults -/

section
variable {s t : State} {f : Fault}

theorem exec_ne_fault (i : Instr) : exec i s ≠ .fault f := by
  cases hw : i.wellFormed with
  | true => simp [exec_eq_submit i s hw]
  | false => simp [exec_eq_submitIllegal i s hw]

theorem submitWord_ne_fault (w : Word) : submitWord w s ≠ .fault f := by
  unfold submitWord
  split
  · exact exec_ne_fault _
  · nofun

theorem csrWrite_ne_fault (off bits : Nat) (v : Word) : csrWrite off bits v s ≠ .fault f := by
  unfold csrWrite
  split
  · nofun
  split
  · exact submitWord_ne_fault v
  · nofun

theorem csrRead_ne_fault (off bits : Nat) : csrRead off bits s ≠ .fault f := by
  unfold csrRead
  split <;> nofun

theorem ownMemory_ne_fault (g : State → State) : ownMemory s g ≠ .fault f := by
  obtain ⟨-, he⟩ | ⟨-, -, he⟩ | ⟨-, -, he⟩ := ownMemory_cases s g <;> rw [he] <;> nofun

theorem sequencerStep_ne_fault {P : Config.Params} (hs : s.Invariant P) : sequencerStep P s ≠ .fault f := by
  obtain ⟨t, ht, -⟩ := sequencerStep_safe hs
  rw [ht]
  nofun

/-- Only the sequencer can ask for what does not exist, and from the invariants it does not (R71, R197). -/
theorem perform_ne_fault (hs : s.Invariant Config.params) (e : Event) : perform e s ≠ .fault f := by
  cases e with
  | csrWrite off bits v => exact csrWrite_ne_fault off bits v
  | csrRead off bits => exact csrRead_ne_fault off bits
  | sequencer => exact sequencerStep_ne_fault hs
  | answerAlloc | reset => nofun
  | pixWrite | pixRead | inWrite | inRead | outWrite | outRead =>
    rw [perform_barred rfl]
    exact ownMemory_ne_fault _

theorem step_ne_fault (hs : s.Invariant Config.params) : step s ≠ .fault f := by
  cases hq : s.schedule with
  | nil => exact step_idle_schedule s hq ▸ sequencerStep_ne_fault hs
  | cons e rest => exact step_event s e rest hq ▸ perform_ne_fault (s := { s with schedule := rest }) { hs with } e

/-- A move of the sequencer is safe, also when it does nothing. -/
theorem Transition.safe (h : Transition s .sequencer t) (hs : s.Invariant Config.params) :
    SafeMove Config.params s t := by
  have hinv := h.keeps_invariant hs
  cases h with
  | still => exact .refl hs
  | illegal | rejected => exact ⟨hinv, fun _ _ => rfl, fun _ _ => rfl, rfl⟩
  | sequenced _ hstep =>
    obtain ⟨u, hu, hsafe⟩ := sequencerStep_safe hs
    cases hu.symm.trans hstep
    exact hsafe

end

/-- Settles O54. -/
theorem noStepLeavesTheMemories : Obligations.NoStepLeavesTheMemories := by
  refine ⟨fun _ _ hs => step_ne_fault hs, fun s t hs hm hstep => ?_⟩
  have hmove := step_transition hstep
  rw [hm] at hmove
  obtain ⟨-, hpix, hout, hin⟩ := hmove.safe hs.dequeued
  exact ⟨hpix, hout, fun i => congrArg (Memory.read · i) hin⟩

end Sys2Proof.Machine
end

section
/-! SUPPORT. Runs of the sequencer (44_pipeline.md R182, R201), and the statements on the number of steps that an
encrypt and a decrypt take. -/

namespace Sys2Proof.Machine

/-! Runs -/

section
variable {s t : State}

theorem runSteps_zero (s : State) : runSteps 0 s = .next s := rfl

theorem runSteps_step (n : Nat) (h : step s = .next t) : runSteps (n + 1) s = runSteps n t := by
  rw [runSteps, h]

/-- A run is taken up where another ends. -/
theorem runSteps_add {m : Nat} (n : Nat) (h : runSteps m s = .next t) : runSteps (m + n) s = runSteps n t := by
  induction m generalizing s with
  | zero =>
    cases h
    rw [Nat.zero_add]
  | succ m ih =>
    unfold runSteps at h
    split at h
    next u hu =>
      rw [Nat.add_right_comm, runSteps_step (m + n) hu]
      exact ih h
    · cases h
    · cases h

theorem runSteps_one (h : step s = .next t) : runSteps 1 s = .next t := runSteps_step 0 h

/-- What each of N steps hands on holds after any number of them up to N. -/
theorem runSteps_induction {motive : Nat → State → Prop} (k N : Nat)
    (hstep : ∀ n u, k ≤ n → n < k + N → motive n u → ∃ v, step u = .next v ∧ motive (n + 1) v) (hs : motive k s) :
    ∀ n ≤ N, ∃ t, runSteps n s = .next t ∧ motive (k + n) t := by
  intro n hn
  induction n with
  | zero => exact ⟨s, rfl, hs⟩
  | succ n ih =>
    obtain ⟨u, hu, hmotive⟩ := ih (by omega)
    obtain ⟨v, hv, hmotive⟩ := hstep (k + n) u (by omega) (by omega) hmotive
    exact ⟨v, (runSteps_add 1 hu).trans (runSteps_one hv), hmotive⟩

end

/-! An encrypt left alone -/

/-- Where an encrypt of a size stands when n bytes have been packed (R185, R186). -/
def encryptState (size n : Nat) : PlState :=
  if n < 5 then .encHdr else if n < 5 + size then .encPay else .encFlush

/-- The instance that masks the next byte of an encrypt (R182). -/
def State.byteKs (s : State) : KsId := if s.byteCnt.toNat < 5 then .ks0 else s.psel

/-- The next byte of an encrypt, before masking: the header's, then IN's (R185, R186). -/
def State.byteInHand (s : State) : Byte :=
  if s.byteCnt.toNat < 5 then hdrBuf s.hdr s.byteCnt.toNat else s.input.read (s.byteCnt.toNat - 5)

/-- The state one packed byte on. -/
def byteEncrypted (P : Config.Params) (s : State) : State :=
  { packMasked P s.byteKs s.byteInHand s with plState := encryptState s.size.toNat (s.byteCnt.toNat + 1) }

/-- An encrypt that has packed n bytes, with nothing scheduled. -/
structure Encrypting (n : Nat) (s : State) : Prop where
  position : s.EncryptPosition
  alone : s.SequencerNext
  count : s.byteCnt.toNat = n
  state : s.plState = encryptState s.size.toNat n

section
variable {n : Nat} {s t : State}

theorem encryptState_busy (size n : Nat) : (encryptState size n).isBusy = true := by
  unfold encryptState
  split_ifs <;> rfl

theorem encryptState_flush {size : Nat} : encryptState size (5 + size) = .encFlush := by
  rw [encryptState, if_neg (by omega), if_neg (by omega)]

theorem afterHeaderByte_eq {j : Nat} (s : State) (hj : j < 5) :
    afterHeaderByte j s = encryptState s.size.toNat (j + 1) := by
  unfold afterHeaderByte encryptState
  grind

/-- The size, and what a packed byte leaves alone besides. -/
theorem byteEncrypted_frame (P : Config.Params) (s : State) : byteEncrypted P s = { s with
    ks0 := (byteEncrypted P s).ks0, ks1 := (byteEncrypted P s).ks1, lpos := (byteEncrypted P s).lpos
    pk := (byteEncrypted P s).pk, pix := (byteEncrypted P s).pix
    byteCnt := s.byteCnt + 1, plState := encryptState s.size.toNat (s.byteCnt.toNat + 1) } := by
  unfold byteEncrypted
  conv_lhs => rw [packMasked_frame]
  rw [packMasked_frame]

/-- A byte is left to pack: the step packs it (R185, R186). -/
theorem Encrypting.step_eq (h : Encrypting n s) (hn : n < 5 + s.size.toNat) :
    step s = .next (byteEncrypted Config.params s) := by
  obtain ⟨hpos, ⟨hf, hs⟩, rfl, hstate⟩ := h
  have ⟨_, _, hcap, _⟩ := hpos
  rw [step_idle_schedule s hs]
  unfold byteEncrypted State.byteKs State.byteInHand
  by_cases h5 : s.byteCnt.toNat < 5
  · rw [sequencerStep_encHdr _ hf (hstate.trans (if_pos h5)), stepEncHdr_eq _ (by omega) (hpos.needEnc_le hn),
      if_pos h5, if_pos h5, afterHeaderByte_eq s h5]
  · have hp : s.plState = .encPay := by rw [hstate, encryptState, if_neg h5, if_pos hn]
    have hnext : encryptState s.size.toNat (s.byteCnt.toNat + 1) =
        if s.byteCnt.toNat + 1 = 5 + s.size.toNat then .encFlush else .encPay := by
      unfold encryptState
      grind
    rw [sequencerStep_encPay _ hf hp, stepEncPay_eq _ (Nat.not_lt.mp h5) hn hcap (hpos.needEnc_le hn), if_neg h5,
      if_neg h5, hnext]

theorem Encrypting.next (h : Encrypting n s) (hn : n < 5 + s.size.toNat) :
    Encrypting (n + 1) (byteEncrypted Config.params s) := by
  obtain ⟨hpos, halone, rfl, -⟩ := h
  have hnext := hpos.packMasked (P := Config.params) hn s.byteKs s.byteInHand
  have hsize : (byteEncrypted Config.params s).size = s.size := by rw [byteEncrypted_frame]
  refine ⟨hnext, ?_, ?_, ?_⟩
  · rw [byteEncrypted_frame]
    exact halone
  · rw [byteEncrypted_frame]
    exact hpos.byteCnt_succ hn
  · rw [hsize]
    rfl

/-- With every byte packed the step flushes and ends the encrypt (R187). -/
theorem Encrypting.flush (h : Encrypting (5 + s.size.toNat) s) :
    step s = .next { pkEncFlush s with code := .ok, plState := .done } := by
  obtain ⟨hpos, ⟨hf, hs⟩, hcnt, hstate⟩ := h
  rw [step_idle_schedule s hs, sequencerStep_encFlush _ hf (hstate.trans encryptState_flush),
    stepEncFlush_eq (hpos.needFlush_le hcnt)]

end

/-- Settles O56: a byte at each step, and the flush. -/
theorem encryptTakesExactlyItsSteps : Obligations.EncryptTakesExactlyItsSteps := by
  intro s hinv halone hp hcnt
  obtain ⟨hpos, -⟩ := (pipeline_encHdr hp).mp hinv.pipeline
  have hstart : Encrypting 0 s := ⟨hpos, halone, by rw [hcnt]; rfl, hp⟩
  have hrun := runSteps_induction (motive := fun n t => Encrypting n t ∧ t.size = s.size) 0 (5 + s.size.toNat)
    (fun n t _ hn ⟨ht, hsize⟩ => by
      have hn : n < 5 + t.size.toNat := by rw [hsize]; omega
      exact ⟨_, ht.step_eq hn, ht.next hn, by rw [byteEncrypted_frame]; exact hsize⟩) ⟨hstart, rfl⟩
  simp only [Nat.zero_add] at hrun
  refine ⟨?_, fun n hn => ?_⟩
  · obtain ⟨t, ht, henc, hsize⟩ := hrun (5 + s.size.toNat) le_rfl
    have hcount := henc.count
    rw [← hsize] at henc
    exact ⟨_, (runSteps_add 1 ht).trans (runSteps_one henc.flush), rfl, rfl, hcount⟩
  · obtain ⟨t, ht, henc, -⟩ := hrun n (by omega)
    exact ⟨t, ht, busy_of_plState henc.state (encryptState_busy _ _)⟩

/-! A decrypt left alone -/

/-- The run from s ends, within the steps that b allows for the header of the state it ends in (R201). -/
def EndsWithin (b : Nat) (s : State) : Prop :=
  ∃ n t, runSteps n s = .next t ∧ n + s.byteCnt.toNat ≤ b + t.hdr.size.toNat ∧
    (t.plState = .done ∨ t.plState = .failed)

section
variable {s t : State} {b c : Nat}

theorem endsWithin_of_ended (h : s.plState = .done ∨ s.plState = .failed)
    (hb : s.byteCnt.toNat ≤ b + s.hdr.size.toNat) : EndsWithin b s :=
  ⟨0, s, rfl, by omega, h⟩

theorem EndsWithin.step (h : EndsWithin b t) (hs : step s = .next t)
    (hb : s.byteCnt.toNat + 1 + b ≤ t.byteCnt.toNat + c) : EndsWithin c s := by
  obtain ⟨n, u, hrun, hn, hend⟩ := h
  exact ⟨n + 1, u, (runSteps_step n hs).trans hrun, by omega, hend⟩

/-- The payload takes a step for each byte left (R192). -/
theorem decPay_endsWithin (left : Nat) (hinv : s.Invariant Config.params) (halone : s.SequencerNext)
    (hp : s.plState = .decPay) (hleft : 5 + s.hdr.size.toNat ≤ s.byteCnt.toNat + left) : EndsWithin 5 s := by
  induction left generalizing s with
  | zero =>
    obtain ⟨-, -, -, -, hc, -⟩ := (pipeline_decPay hp).mp hinv.pipeline
    omega
  | succ left ih =>
    obtain ⟨hpos, hcomplete, hout, h5, hc, hcap⟩ := (pipeline_decPay hp).mp hinv.pipeline
    obtain ⟨hf, hs⟩ := halone
    have hbyte := hpos.byteCnt_succ
    have hstep : step s = sequencerStep Config.params s := step_idle_schedule s hs
    rw [sequencerStep_decPay _ hf hp, stepDecPay_eq hp h5 hc hcap hout (needDec_le_of_cap hpos hc hcap)] at hstep
    have hnext := everyStepKeepsTheInvariant _ _ hinv hstep
    have hframe := unpackUnmasked_frame Config.params s.psel s
    have hhdr : (unpackUnmasked Config.params s.psel s).2.hdr = s.hdr := by rw [hframe]
    have hfault : (unpackUnmasked Config.params s.psel s).2.faultedBy = none := by rw [hframe, hf]
    have hsched : (unpackUnmasked Config.params s.psel s).2.schedule = [] := by rw [hframe, hs]
    refine EndsWithin.step (b := 5) ?_ hstep (by dsimp only; omega)
    by_cases hlast : s.byteCnt.toNat + 1 = 5 + s.hdr.size.toNat
    · refine endsWithin_of_ended (.inl (if_pos hlast)) ?_
      dsimp only
      rw [hhdr]
      omega
    · refine ih hnext ⟨hfault, hsched⟩ (if_neg hlast) ?_
      dsimp only
      rw [hhdr]
      omega

/-- DEC_ALLOC is one step, and the payload follows (R191). -/
theorem decAlloc_endsWithin (hinv : s.Invariant Config.params) (halone : s.SequencerNext)
    (hp : s.plState = .decAlloc) : EndsWithin 6 s := by
  obtain ⟨-, hcnt, -, -⟩ := (pipeline_decAlloc hp).mp hinv.pipeline
  obtain ⟨hf, hs⟩ := halone
  have hstep : step s = sequencerStep Config.params s := step_idle_schedule s hs
  rw [sequencerStep_decAlloc _ hf hp] at hstep
  obtain ⟨c, o, k, -, he⟩ | ⟨-, he⟩ := stepDecAlloc_cases Config.params s <;> rw [he] at hstep
  · exact EndsWithin.step (endsWithin_of_ended (b := 5) (.inr rfl) (by dsimp only; omega)) hstep (by dsimp only; omega)
  · have hnext := everyStepKeepsTheInvariant _ _ hinv hstep
    refine EndsWithin.step (b := 5) ?_ hstep (show s.byteCnt.toNat + 1 + 5 ≤ s.byteCnt.toNat + 6 by omega)
    by_cases h0 : s.hdr.size = 0
    · exact endsWithin_of_ended (.inl (if_pos h0)) (show s.byteCnt.toNat ≤ 5 + s.hdr.size.toNat by omega)
    · refine decPay_endsWithin s.hdr.size.toNat hnext ⟨hf, hs⟩ (if_neg h0) ?_
      change 5 + s.hdr.size.toNat ≤ s.byteCnt.toNat + s.hdr.size.toNat
      omega

/-- The header takes a step for each byte left, unless it fails before (R189). -/
theorem decHdr_endsWithin (left : Nat) (hinv : s.Invariant Config.params) (halone : s.SequencerNext)
    (hp : s.plState = .decHdr) (hleft : 5 ≤ s.byteCnt.toNat + left) : EndsWithin 6 s := by
  induction left generalizing s with
  | zero =>
    obtain ⟨-, hcnt, -, hopen⟩ := (pipeline_decHdr hp).mp hinv.pipeline
    obtain ⟨-, -, hcount, -⟩ := hinv.header
    have := (hcount hopen).1
    omega
  | succ left ih =>
    obtain ⟨hpos, hcnt, hunsup, hopen⟩ := (pipeline_decHdr hp).mp hinv.pipeline
    obtain ⟨-, -, hcount, -⟩ := hinv.header
    obtain ⟨hcount, -⟩ := hcount hopen
    obtain ⟨hf, hs⟩ := halone
    have hbyte := hpos.byteCnt_succ
    have hstep : step s = sequencerStep Config.params s := step_idle_schedule s hs
    rw [sequencerStep_decHdr _ hf hp] at hstep
    by_cases hr : s.pk.pixIdx.toNat + needDec s.occ ≤ s.npix
    · rw [stepDecHdr_eq hp hr] at hstep
      have hnext := everyStepKeepsTheInvariant _ _ hinv hstep
      have hframe := unpackUnmasked_frame Config.params .ks0 s
      have halone' : (unpackUnmasked Config.params .ks0 s).2.SequencerNext := by
        rw [hframe]
        exact ⟨hf, hs⟩
      refine EndsWithin.step (b := 6) ?_ hstep (by dsimp only; omega)
      by_cases hu : (hdrAdd (unpackUnmasked Config.params .ks0 s).1 s.hdr).unsup = true
      · exact endsWithin_of_ended (.inr (if_pos hu)) (by dsimp only; omega)
      by_cases hc : (hdrAdd (unpackUnmasked Config.params .ks0 s).1 s.hdr).complete = true
      · by_cases hfits : (s.cap : Int) <
            5 + sval Config.params (hdrAdd (unpackUnmasked Config.params .ks0 s).1 s.hdr).size
        · exact endsWithin_of_ended (.inr (by simp only [hu, hc, hfits, if_true]; rfl)) (by dsimp only; omega)
        · exact decAlloc_endsWithin hnext halone' (by simp only [hu, hc, hfits, if_true, if_false]; rfl)
      · exact ih hnext halone' (by simp only [hu, hc]; rfl) (by dsimp only; omega)
    · rw [stepDecHdr_exhausted (Nat.not_le.mp hr)] at hstep
      exact EndsWithin.step (endsWithin_of_ended (b := 5) (.inr rfl) (by dsimp only; omega)) hstep
        (by dsimp only; omega)

end

/-- Settles O57: five header bytes, the grant, and the payload's bytes. -/
theorem decryptEndsWithinItsSteps : Obligations.DecryptEndsWithinItsSteps := by
  intro s hinv halone hp hcnt
  obtain ⟨n, t, hrun, hn, hend⟩ := decHdr_endsWithin 5 hinv halone hp (by omega)
  exact ⟨n, t, hrun, by rw [hcnt] at hn; exact hn, hend⟩

end Sys2Proof.Machine
end

section
/-! SUPPORT. Where an instance stands in its keystream (42_keystream.md R140, R141), and the message that an encrypt
lays over the image: its bytes, the keystream bytes that mask them, and what the header parser makes of its first five
(44_pipeline.md R182, R185, R186; 41_header.md R111). -/

namespace Sys2Proof.Machine

/-! Cursors -/

/-- Where an instance stands in its keystream: the seed and position of the old cipher, or the shift registers (R140,
R141). -/
inductive Cursor where
  | legacy (seed : Vector Byte 16) (pos : Nat)
  | lfsr (x : Keystream)

/-- The cursor of instance k. -/
def cursor (P : Config.Params) (k : KsId) (s : State) : Cursor :=
  if usesLegacy P k = true then .legacy s.lseed s.lpos else .lfsr (s.ks k)

/-- The byte at a cursor. -/
def Cursor.byte (P : Config.Params) (c : Cursor) : Byte :=
  match c with
  | .legacy seed pos => P.legacyKs seed pos
  | .lfsr x => x.nextByte.1

/-- The cursor one byte on. -/
def Cursor.next (c : Cursor) : Cursor :=
  match c with
  | .legacy seed pos => .legacy seed (pos + 1)
  | .lfsr x => .lfsr x.nextByte.2

/-- The cursor of an instance just constructed from 16 seed bytes (R135). -/
def firstCursor (P : Config.Params) (k : KsId) (buf : Vector Byte 16) : Cursor :=
  if usesLegacy P k = true then .legacy buf 0 else .lfsr (constructed P (P.seedSlice buf))

section
variable {P : Config.Params} {k : KsId} {s t : State}

theorem cursor_congr (hks : t.ks k = s.ks k) (hseed : t.lseed = s.lseed) (hpos : t.lpos = s.lpos) :
    cursor P k t = cursor P k s := by
  rw [cursor, cursor, hks, hseed, hpos]

theorem cursor_ks1 (s : State) : cursor P .ks1 s = .lfsr s.ks1 := if_neg Bool.false_ne_true

/-- A draw yields the byte at the instance's cursor. -/
theorem ksNextByte_fst (s : State) : (ksNextByte P k s).1 = (cursor P k s).byte P := by
  cases h : usesLegacy P k with
  | true =>
    rw [ksNextByte_legacy h, cursor, if_pos h]
    rfl
  | false =>
    rw [ksNextByte_lfsr h, cursor, h]
    rfl

/-- A draw moves the instance's cursor one byte on, and no other. -/
theorem cursor_ksNextByte (j : KsId) (s : State) :
    cursor P j (ksNextByte P k s).2 = if j = k then (cursor P k s).next else cursor P j s := by
  cases h : usesLegacy P k with
  | true =>
    rw [ksNextByte_legacy h]
    split
    next hj =>
      rw [hj, cursor, cursor, if_pos h, if_pos h]
      rfl
    next hj =>
      -- The old cipher runs on instance 0 alone, so j is instance 1.
      obtain ⟨rfl, -⟩ := (usesLegacy_iff P k).mp h
      cases j with
      | ks0 => exact absurd rfl hj
      | ks1 => rw [cursor_ks1, cursor_ks1]
  | false =>
    rw [ksNextByte_lfsr h]
    split
    next hj =>
      rw [hj, cursor, cursor, h]
      exact congrArg Cursor.lfsr (setKs_ks s k _)
    next hj => exact cursor_congr (setKs_ks_other s k j _ hj) (by cases k <;> rfl) (by cases k <;> rfl)

end

/-! The message -/

/-- What an encrypt lays over the image: version, size and payload, whether it is masked, and the staged seeds
(R184). -/
structure Message where
  version : Byte
  size : Word
  payload : Nat → Byte
  masked : Bool
  seeds : KsId → Vector Byte 16

namespace Message

/-- The header of the message (R184). -/
def header (m : Message) : Header := completeHeader m.version m.size

/-- Byte n before masking: the header's five, then the payload's (R185, R186). -/
def plain (m : Message) (n : Nat) : Byte := if n < 5 then hdrBuf m.header n else m.payload (n - 5)

/-- The instance that masks the payload (R184, R191). -/
def payloadKs (m : Message) : KsId := if m.version = 1 then .ks1 else .ks0

/-- The instance that masks byte n (R182). -/
def byteKs (m : Message) (n : Nat) : KsId := if n < 5 then .ks0 else m.payloadKs

/-- How many of the first n bytes instance k masks. -/
def drawn (m : Message) (k : KsId) (n : Nat) : Nat := Nat.count (fun i => m.byteKs i = k) n

/-- The cursor of instance k when n bytes have been masked. -/
def cursorAt (m : Message) (P : Config.Params) (k : KsId) (n : Nat) : Cursor :=
  Cursor.next^[m.drawn k n] (firstCursor P k (m.seeds k))

/-- Byte n as it is packed (R182). -/
def cipher (m : Message) (P : Config.Params) (n : Nat) : Byte :=
  if m.masked = true then m.plain n ^^^ (m.cursorAt P (m.byteKs n) n).byte P else m.plain n

/-- The parser's header when n bytes of the message have been read (R111). -/
def parsed (m : Message) (n : Nat) : Header :=
  match n with
  | 0 => Header.empty
  | n + 1 => hdrAdd (m.plain n) (m.parsed n)

/-- The instances that the message needs. -/
def Uses (m : Message) (k : KsId) : Prop := k = .ks0 ∨ m.version = 1

variable (m : Message) {P : Config.Params} {k : KsId} {n : Nat}

theorem uses_payloadKs : m.Uses m.payloadKs := by
  unfold payloadKs Uses
  split
  · exact .inr ‹_›
  · exact .inl rfl

theorem uses_byteKs (n : Nat) : m.Uses (m.byteKs n) := by
  unfold byteKs
  split
  · exact .inl rfl
  · exact m.uses_payloadKs

theorem byteKs_header (h : n < 5) : m.byteKs n = .ks0 := if_pos h

theorem byteKs_payload (h : 5 ≤ n) : m.byteKs n = m.payloadKs := if_neg (Nat.not_lt.mpr h)

theorem cursorAt_zero : m.cursorAt P k 0 = firstCursor P k (m.seeds k) := by
  rw [cursorAt, drawn, Nat.count_zero, Function.iterate_zero, id]

/-- Masking byte n moves the cursor of its instance. -/
theorem cursorAt_succ (k : KsId) (n : Nat) :
    m.cursorAt P k (n + 1) = if k = m.byteKs n then (m.cursorAt P k n).next else m.cursorAt P k n := by
  rw [cursorAt, drawn, Nat.count_succ]
  by_cases h : m.byteKs n = k
  · rw [if_pos h, if_pos h.symm, Function.iterate_succ_apply']
    rfl
  · rw [if_neg h, if_neg (Ne.symm h)]
    rfl

/-- No header byte is masked with instance 1. -/
theorem cursorAt_ks1_five : m.cursorAt P .ks1 5 = firstCursor P .ks1 (m.seeds .ks1) := by
  have hnone : m.drawn .ks1 5 = 0 := by
    refine Nat.count_of_forall_not fun i hi => ?_
    rw [m.byteKs_header hi]
    decide
  rw [cursorAt, hnone, Function.iterate_zero, id]

/-! Parsing the message -/

/-- The first five bytes are the serialised header, and parse back to it (R117). -/
theorem parsed_five (hv : m.version.toNat ≤ 1) : m.parsed 5 = m.header := addBytes_headerBytes m.header hv

/-- A closed header stays as it is (R111). -/
theorem parsed_closed (h : (m.parsed n).unsup = true ∨ (m.parsed n).complete = true) (d : Nat) :
    m.parsed (n + d) = m.parsed n := by
  induction d with
  | zero => rfl
  | succ d ih =>
    change hdrAdd (m.plain (n + d)) (m.parsed (n + d)) = _
    rw [ih, hdrAdd_closed _ h]

theorem parsed_consistent (n : Nat) : (m.parsed n).Consistent := by
  induction n with
  | zero => exact empty_consistent
  | succ n ih => exact hdrAdd_consistent _ ih

/-- A supported version is not given up on, or the fifth byte would not complete the header. -/
theorem parsed_unsup (hv : m.version.toNat ≤ 1) (hn : n ≤ 5) : (m.parsed n).unsup = false := by
  by_contra hu
  have hclosed := m.parsed_closed (n := n) (.inl (by simpa using hu)) (5 - n)
  rw [Nat.add_sub_cancel' hn, m.parsed_five hv] at hclosed
  exact hu (hclosed ▸ rfl)

/-- Before the fifth byte the header counts its bytes and is not complete. -/
theorem parsed_open (hv : m.version.toNat ≤ 1) (hn : n < 5) :
    (m.parsed n).complete = false ∧ (m.parsed n).count.toNat = n := by
  induction n with
  | zero => exact ⟨rfl, rfl⟩
  | succ n ih =>
    obtain ⟨hopen, hcount⟩ := ih (by omega)
    have hnext := hdrAdd_count (m.plain n) (m.parsed_unsup hv (by omega)) hopen (by omega)
    rw [hcount] at hnext
    refine ⟨?_, hnext⟩
    by_contra hc
    obtain ⟨hcomplete, -⟩ := m.parsed_consistent (n + 1)
    obtain ⟨-, h5, -⟩ := hcomplete (by simpa using hc)
    change (m.parsed (n + 1)).count.toNat = n + 1 at hnext
    rw [h5] at hnext
    have : n + 1 = 5 := hnext.symm
    omega

end Message

/-! Masking and unmasking the message -/

/-- When masking, instance k stands where n masked bytes of the message leave it. -/
def KeyedAt (P : Config.Params) (m : Message) (k : KsId) (n : Nat) (s : State) : Prop :=
  m.masked = true → cursor P k s = m.cursorAt P k n

section
variable {P : Config.Params} {m : Message} {k : KsId} {n : Nat} {s t : State}

theorem KeyedAt.congr (h : KeyedAt P m k n s) (hks : t.ks k = s.ks k) (hseed : t.lseed = s.lseed)
    (hpos : t.lpos = s.lpos) : KeyedAt P m k n t :=
  fun hm => (cursor_congr hks hseed hpos).trans (h hm)

/-- Masking byte n takes every instance one byte on in the message. -/
theorem KeyedAt.maskByte (h : KeyedAt P m k n s) (hmask : s.maskEn = m.masked) (b : Byte) :
    KeyedAt P m k (n + 1) (maskByte P (m.byteKs n) b s).2 := by
  intro hm
  have hstate : (Machine.maskByte P (m.byteKs n) b s).2 = (ksNextByte P (m.byteKs n) s).2 := by
    rw [maskByte_eq]
    exact if_pos (hmask.trans hm)
  rw [hstate, cursor_ksNextByte, m.cursorAt_succ]
  by_cases hk : k = m.byteKs n
  · rw [if_pos hk, if_pos hk, ← hk, h hm]
  · rw [if_neg hk, if_neg hk, h hm]

/-- Byte n of the message is masked to its cipher byte, and that back to it (R182). -/
theorem KeyedAt.maskByte_fst (h : KeyedAt P m (m.byteKs n) n s) (hmask : s.maskEn = m.masked) :
    (Machine.maskByte P (m.byteKs n) (m.plain n) s).1 = m.cipher P n ∧
      (Machine.maskByte P (m.byteKs n) (m.cipher P n) s).1 = m.plain n := by
  simp only [maskByte_eq, ksNextByte_fst, hmask, Message.cipher]
  cases hm : m.masked with
  | false => exact ⟨rfl, rfl⟩
  | true =>
    rw [h hm]
    simp

end

end Sys2Proof.Machine
end

section
/-! SUPPORT. A message encrypted into an image and decrypted from it (44_pipeline.md R184 to R192, R198): what holds
after n bytes of each run, and the statement that the decrypt recovers the message. -/

namespace Sys2Proof.Machine

/-! Encrypting a message -/

/-- The message that an encrypt of version v sends from s (R184). -/
def State.message (v : Byte) (s : State) : Message where
  version := v
  size := s.size
  payload := s.input.read
  masked := s.maskEn
  seeds k := (s.seed k).buf

/-- The packer takes the same byte in states with the same packer and pixels. -/
theorem Packed.congr {c : Nat → Byte} {n : Nat} {s t : State} (h : Packed c n s) (hpk : t.pk = s.pk)
    (hpix : t.pix = s.pix) : Packed c n t := by
  have hocc : t.occ = s.occ := congrArg (fun p => p.q.length) hpk
  exact ⟨by rw [hpk, hocc]; exact h.position, by rw [hocc]; exact h.occ, by rw [hpk, hocc]; exact h.buffered,
    by rw [hpk, hpix]; exact h.written⟩

/-- An encrypt that has packed n bytes of the message m. -/
structure Enciphering (P : Config.Params) (m : Message) (n : Nat) (s : State) : Prop where
  encrypting : Encrypting n s
  header : s.hdr = m.header
  size : s.size = m.size
  payload : s.input.read = m.payload
  masked : s.maskEn = m.masked
  payloadKs : s.psel = m.payloadKs
  keyed : ∀ k, m.Uses k → KeyedAt P m k n s
  packed : Packed (m.cipher P) n s

/-- What an encrypt leaves alone (R197). -/
def LeftByEncrypt (s t : State) : Prop := t = { s with
  ks0 := t.ks0, ks1 := t.ks1, lpos := t.lpos, pk := t.pk, pix := t.pix, byteCnt := t.byteCnt, plState := t.plState }

section
variable {P : Config.Params} {m : Message} {n : Nat} {s t u : State}

theorem LeftByEncrypt.refl (s : State) : LeftByEncrypt s s := rfl

theorem LeftByEncrypt.trans (h : LeftByEncrypt s t) (h' : LeftByEncrypt t u) : LeftByEncrypt s u :=
  Eq.trans h' (congrArg (fun x : State => { x with
    ks0 := u.ks0, ks1 := u.ks1, lpos := u.lpos, pk := u.pk, pix := u.pix, byteCnt := u.byteCnt
    plState := u.plState }) h)

theorem byteEncrypted_leftByEncrypt (P : Config.Params) (s : State) : LeftByEncrypt s (byteEncrypted P s) := by
  have hcnt : (byteEncrypted P s).byteCnt = s.byteCnt + 1 := by rw [byteEncrypted_frame]
  unfold LeftByEncrypt
  rw [hcnt]
  exact byteEncrypted_frame P s

theorem Enciphering.byteKs (h : Enciphering P m n s) : s.byteKs = m.byteKs n := by
  rw [State.byteKs, h.encrypting.count, h.payloadKs]
  rfl

theorem Enciphering.byteInHand (h : Enciphering P m n s) : s.byteInHand = m.plain n := by
  rw [State.byteInHand, h.encrypting.count, h.header, h.payload]
  rfl

/-- One more byte of the message: packed as its cipher byte, with the instances one byte on. -/
theorem Enciphering.next (h : Enciphering Config.params m n s) (hn : n < 5 + s.size.toNat) :
    Enciphering Config.params m (n + 1) (byteEncrypted Config.params s) := by
  have hframe := byteEncrypted_frame Config.params s
  have hpacked := packMasked_frame Config.params s.byteKs s.byteInHand s
  obtain ⟨hcipher, -⟩ := (h.keyed _ (m.uses_byteKs n)).maskByte_fst h.masked
  rw [h.byteKs, h.byteInHand, hcipher] at hpacked
  have hneed := h.encrypting.position.needEnc_le (by rw [h.encrypting.count]; exact hn)
  have hstate : byteEncrypted Config.params s =
      { packMasked Config.params (m.byteKs n) (m.plain n) s with
        plState := encryptState s.size.toNat (s.byteCnt.toNat + 1) } := by
    rw [byteEncrypted, h.byteKs, h.byteInHand]
  have hseed : (maskByte Config.params (m.byteKs n) (m.plain n) s).2.lseed = s.lseed := by rw [maskByte_frame]
  refine ⟨h.encrypting.next hn, ?_, ?_, ?_, ?_, ?_, fun k hk => ?_, ?_⟩
  · rw [hframe]; exact h.header
  · rw [hframe]; exact h.size
  · rw [hframe]; exact h.payload
  · rw [hframe]; exact h.masked
  · rw [hframe]; exact h.payloadKs
  · rw [hstate, hpacked]
    exact ((h.keyed k hk).maskByte h.masked _).congr (by cases k <;> rfl) hseed.symm rfl
  · rw [hstate, hpacked]
    exact (h.packed.pkEncByte hneed).congr rfl rfl

/-- The run of an encrypt: it ends in DONE after 6 + SIZE steps, with the message's cipher bytes in the image. -/
theorem Enciphering.run (h : Enciphering Config.params m 0 s) :
    ∃ t, runSteps (6 + s.size.toNat) s = .next { pkEncFlush t with code := .ok, plState := .done } ∧
      LeftByEncrypt s t ∧
      ∀ i < 4 * (5 + s.size.toNat), imagePair (pkEncFlush t).pix i = streamPair (m.cipher Config.params) i := by
  have hrun := runSteps_induction (motive := fun n t => Enciphering Config.params m n t ∧ LeftByEncrypt s t) 0
    (5 + s.size.toNat) (fun n t _ hn ⟨ht, hleft⟩ => by
      have hsize : t.size = s.size := ht.size.trans h.size.symm
      have hn : n < 5 + t.size.toNat := by rw [hsize]; omega
      exact ⟨_, ht.encrypting.step_eq hn, ht.next hn, hleft.trans (byteEncrypted_leftByEncrypt _ t)⟩) ⟨h, .refl s⟩
  obtain ⟨t, ht, henc, hleft⟩ := hrun (5 + s.size.toNat) le_rfl
  rw [Nat.zero_add] at henc
  have hsize : t.size = s.size := henc.size.trans h.size.symm
  have hflush := henc.encrypting
  rw [← hsize] at hflush
  have hsteps : 6 + s.size.toNat = 5 + s.size.toNat + 1 := by omega
  refine ⟨t, ?_, hleft, henc.packed.pkEncFlush⟩
  rw [hsteps, runSteps_add 1 ht]
  exact runSteps_one hflush.flush

end

/-! Decrypting a message -/

/-- What the decrypt of m needs of a state and never writes: a block left alone, that masks as m does, holds its cipher
bytes, its payload seed and the host's grant, and reads its size without sign (R188 to R192). -/
structure Receives (P : Config.Params) (m : Message) (s : State) : Prop where
  alone : s.SequencerNext
  masked : s.maskEn = m.masked
  fits : 5 + m.size.toNat ≤ s.cap
  image : ∀ i < 4 * (5 + m.size.toNat), imagePair s.pix i = streamPair (m.cipher P) i
  granted : s.allocAnswer = true
  seed : m.masked = true → m.version = 1 → s.seed1.cnt = 16 ∧ s.seed1.buf = m.seeds .ks1
  policy : m.masked = true → m.version ≠ 1 → P.v0Policy ≠ .reject
  version : m.version.toNat ≤ 1
  sval : sval P m.size = m.size.toNat

/-- What a decrypt leaves alone (R197). -/
def LeftByDecrypt (s t : State) : Prop := t = { s with
  ks0 := t.ks0, ks1 := t.ks1, lseed := t.lseed, lpos := t.lpos, pk := t.pk, hdr := t.hdr, psel := t.psel
  byteCnt := t.byteCnt, output := t.output, outSize := t.outSize, code := t.code, plState := t.plState }

/-- A decrypt that has unpacked n bytes of the message. -/
structure ReadUpTo (P : Config.Params) (m : Message) (n : Nat) (s : State) : Prop where
  receives : Receives P m s
  position : s.DecryptPosition
  count : s.byteCnt.toNat = n
  unpacked : Unpacked n s
  code : s.code = .ok

section
variable {P : Config.Params} {m : Message} {n : Nat} {s t : State}

theorem Receives.congr (h : Receives P m s) (hleft : LeftByDecrypt s t) : Receives P m t := by
  have hpix : t.pix = s.pix := by rw [hleft]
  have hseed : t.seed1 = s.seed1 := by rw [hleft]
  refine ⟨?_, ?_, ?_, by rw [hpix]; exact h.image, ?_, by rw [hseed]; exact h.seed, h.policy, h.version, h.sval⟩
  · rw [hleft]; exact h.alone
  · rw [hleft]; exact h.masked
  · rw [hleft]; exact h.fits
  · rw [hleft]; exact h.granted

theorem ReadUpTo.needDec_le (h : ReadUpTo P m n s) (hn : n < 5 + m.size.toNat) :
    s.pk.pixIdx.toNat + needDec s.occ ≤ s.npix := by
  have hfits := h.receives.fits
  have hcap := cap_le_npix s
  exact h.position.needDec_le (by rw [h.count]; omega)

/-- The byte unpacked and unmasked is the message's (R182). -/
theorem ReadUpTo.unpackUnmasked_fst (h : ReadUpTo P m n s) (hn : n < 5 + m.size.toNat)
    (hkey : KeyedAt P m (m.byteKs n) n s) : (unpackUnmasked P (m.byteKs n) s).1 = m.plain n := by
  have hbyte := h.unpacked.pkDecByte_stream (h.needDec_le hn) fun i hi => h.receives.image i (by omega)
  have hframe := pkDecByte_frame s
  have hkey' : KeyedAt P m (m.byteKs n) n (pkDecByte s).2 := by
    rw [hframe]
    exact hkey.congr (by cases m.byteKs n <;> rfl) rfl rfl
  obtain ⟨-, hplain⟩ := hkey'.maskByte_fst (by rw [hframe]; exact h.receives.masked)
  rw [unpackUnmasked, hbyte, hplain]

/-- A state that has the instances after byte n stands one byte on in them. -/
theorem KeyedAt.unpackUnmasked {k : KsId} (h : KeyedAt P m k n s) (hmask : s.maskEn = m.masked)
    (hks : t.ks k = (unpackUnmasked P (m.byteKs n) s).2.ks k) (hseed : t.lseed = s.lseed)
    (hpos : t.lpos = (unpackUnmasked P (m.byteKs n) s).2.lpos) : KeyedAt P m k (n + 1) t := by
  have hframe := pkDecByte_frame s
  have hkey : KeyedAt P m k n (pkDecByte s).2 := by
    rw [hframe]
    exact h.congr (by cases k <;> rfl) rfl rfl
  refine (hkey.maskByte (by rw [hframe]; exact hmask) (pkDecByte s).1).congr hks (hseed.trans ?_) hpos
  rw [maskByte_frame, hframe]

/-- A state that has the packer after byte n, and BYTE_CNT counting it, has read one byte more. -/
theorem ReadUpTo.next (h : ReadUpTo P m n s) (hn : n < 5 + m.size.toNat) (hleft : LeftByDecrypt s t)
    (hpk : t.pk = (pkDecByte s).2.pk) (hcnt : t.byteCnt = s.byteCnt + 1) (hcode : t.code = .ok) :
    ReadUpTo P m (n + 1) t := by
  have hneed := h.needDec_le hn
  have hnpix : t.npix = s.npix := by rw [hleft]; rfl
  have hpix : t.pix = (pkDecByte s).2.pix := by rw [pkDecByte_frame, hleft]
  have hocc : t.occ = (pkDecByte s).2.occ := congrArg (fun p => p.q.length) hpk
  obtain ⟨hposition, hbuffered⟩ := h.unpacked.pkDecByte_snd hneed
  refine ⟨h.receives.congr hleft, h.position.unpacked hneed hpk hcnt hnpix, ?_, ⟨?_, ?_⟩, hcode⟩
  · rw [hcnt, h.position.byteCnt_succ, h.count]
  · rw [hocc, hpk]; exact hposition
  · rw [hocc, hpk, hpix]; exact hbuffered

end

/-! The header of the message -/

/-- A decrypt in its header, or at the end of it with the grant to come (R189). -/
structure Parsing (P : Config.Params) (m : Message) (n : Nat) (s : State) : Prop extends ReadUpTo P m n s where
  state : s.plState = if n < 5 then .decHdr else .decAlloc
  header : s.hdr = m.parsed n
  keyed : KeyedAt P m .ks0 n s

section
variable {P : Config.Params} {m : Message} {n : Nat} {s t : State}

/-- The step that reads header byte n. -/
theorem Parsing.readByte (h : Parsing Config.params m n s) (hn : n < 5) :
    ∃ t, step s = .next t ∧ Parsing Config.params m (n + 1) t := by
  have hrange : n < 5 + m.size.toNat := by omega
  obtain ⟨hf, hs⟩ := h.receives.alone
  have hp : s.plState = .decHdr := h.state.trans (if_pos hn)
  have hframe := unpackUnmasked_frame Config.params .ks0 s
  have hks := m.byteKs_header hn
  have hbyte := h.toReadUpTo.unpackUnmasked_fst hrange (hks ▸ h.keyed)
  have hkeyed := h.keyed
  rw [hks] at hbyte
  have hheader : hdrAdd (unpackUnmasked Config.params .ks0 s).1 s.hdr = m.parsed (n + 1) := by
    rw [hbyte, h.header]
    rfl
  have hunsup := m.parsed_unsup h.receives.version (show n + 1 ≤ 5 by omega)
  have hstate : (if (m.parsed (n + 1)).complete = true then
      (if (s.cap : Int) < 5 + sval Config.params (m.parsed (n + 1)).size then PlState.failed else .decAlloc)
      else .decHdr) = (if n + 1 < 5 then .decHdr else .decAlloc) ∧
      (if (m.parsed (n + 1)).complete = true then
      (if (s.cap : Int) < 5 + sval Config.params (m.parsed (n + 1)).size then Code.payloadTooLarge else s.code)
      else s.code) = .ok := by
    obtain hlt | rfl : n + 1 < 5 ∨ n = 4 := by omega
    · obtain ⟨hopen, -⟩ := m.parsed_open h.receives.version hlt
      simp [hopen, hlt, h.code]
    · have hfits : ¬ (s.cap : Int) < 5 + sval Config.params m.header.size := by
        have := h.receives.fits
        have hsize : sval Config.params m.header.size = m.size.toNat := h.receives.sval
        omega
      rw [m.parsed_five h.receives.version, if_neg hfits, if_neg hfits]
      exact ⟨rfl, h.code⟩
  obtain ⟨hstate, hcode⟩ := hstate
  have hstep : step s = sequencerStep Config.params s := step_idle_schedule s hs
  rw [sequencerStep_decHdr _ hf hp, stepDecHdr_eq hp (h.toReadUpTo.needDec_le hrange)] at hstep
  dsimp only at hstep
  rw [hheader, hunsup, if_neg Bool.false_ne_true, if_neg Bool.false_ne_true, hstate, hcode] at hstep
  refine ⟨_, hstep, ⟨h.toReadUpTo.next hrange ?_ ?_ rfl rfl, rfl, rfl, ?_⟩⟩
  · unfold LeftByDecrypt
    dsimp only
    rw [hframe]
  · rw [hframe]
  · exact hkeyed.unpackUnmasked h.receives.masked (by rw [hks]; rfl) (by rw [hframe]) (by rw [hks])

end

/-! The payload of the message -/

/-- A decrypt in its payload, or at the end of it in DONE, with the first n - 5 payload bytes in OUT (R192). -/
structure Storing (P : Config.Params) (m : Message) (n : Nat) (s : State) : Prop extends ReadUpTo P m n s where
  state : s.plState = if n < 5 + m.size.toNat then .decPay else .done
  header : s.hdr = m.header
  payloadKs : s.psel = m.payloadKs
  granted : s.outSize = some m.size.toNat
  keyed : KeyedAt P m m.payloadKs n s
  stored : ∀ i < n - 5, s.output.read i = m.payload i

section
variable {P : Config.Params} {m : Message} {n : Nat} {s t : State}

/-- With a size that is not negative, the grant, the seed and the policy, DEC_ALLOC enters the payload (R191). -/
theorem stepDecAlloc_payloadEntered (hsize : 0 ≤ sval P s.hdr.size) (hgrant : s.allocAnswer = true)
    (hseed : s.hdr.version = 1 → s.maskEn = true → s.seed1.cnt = 16)
    (hpolicy : s.hdr.version ≠ 1 → s.maskEn = true → P.v0Policy ≠ .reject) :
    stepDecAlloc P s = .next (payloadEntered P s) := by
  rw [stepDecAlloc_eq, selectPayloadKs_eq, if_neg (by simp [hgrant, hsize]),
    if_neg fun ⟨hv, hm, hc⟩ => hc (hseed hv hm), if_neg fun ⟨hv, hm, hp⟩ => hpolicy hv hm hp]
  rfl

/-- The DEC_ALLOC step of a message. -/
theorem Parsing.enterPayload (h : Parsing Config.params m 5 s) :
    ∃ t, step s = .next t ∧ Storing Config.params m 5 t := by
  obtain ⟨hf, hs⟩ := h.receives.alone
  have hheader : s.hdr = m.header := h.header.trans (m.parsed_five h.receives.version)
  have hversion : s.hdr.version = m.version := by rw [hheader]; rfl
  have hsize : s.hdr.size = m.size := by rw [hheader]; rfl
  have hmask := h.receives.masked
  have hstep : step s = sequencerStep Config.params s := step_idle_schedule s hs
  rw [sequencerStep_decAlloc _ hf h.state, stepDecAlloc_payloadEntered (by rw [hsize, h.receives.sval]; omega)
    h.receives.granted (fun hv hm => (h.receives.seed (hmask ▸ hm) (hversion ▸ hv)).1)
    (fun hv hm => h.receives.policy (hmask ▸ hm) (hversion ▸ hv))] at hstep
  refine ⟨_, hstep, ⟨⟨h.receives.congr rfl, h.position, h.count, ⟨h.unpacked.position, h.unpacked.buffered⟩, ?_⟩,
    ?_, hheader, ?_, ?_, fun hm => ?_, nofun⟩⟩
  · change (if s.hdr.size = 0 then Code.ok else s.code) = .ok
    rw [h.code, ite_self]
  · change (if s.hdr.size = 0 then PlState.done else .decPay) = _
    have hzero : m.size = 0 ↔ ¬ 5 < 5 + m.size.toNat := by simp [BitVec.toNat_eq]
    rw [hsize, if_congr hzero rfl rfl, ite_not]
  · change (if s.hdr.version = 1 then KsId.ks1 else .ks0) = _
    rw [hversion]
    rfl
  · exact congrArg (fun n : Word => some n.toNat) hsize
  · unfold Message.payloadKs
    split
    next hv =>
      obtain ⟨-, hbuf⟩ := h.receives.seed hm hv
      rw [m.cursorAt_ks1_five, cursor_ks1, ← hbuf]
      exact congrArg Cursor.lfsr (if_pos ⟨hversion.trans hv, hmask.trans hm⟩)
    next => exact (h.keyed hm)

/-- The step that stores payload byte n - 5. -/
theorem Storing.storeByte (h : Storing Config.params m n s) (h5 : 5 ≤ n) (hn : n < 5 + m.size.toNat) :
    ∃ t, step s = .next t ∧ Storing Config.params m (n + 1) t := by
  obtain ⟨hf, hs⟩ := h.receives.alone
  have hp : s.plState = .decPay := h.state.trans (if_pos hn)
  have hsize : s.hdr.size = m.size := by rw [h.header]; rfl
  have hframe := unpackUnmasked_frame Config.params s.psel s
  have hks : m.byteKs n = s.psel := (m.byteKs_payload h5).trans h.payloadKs.symm
  have hkey : KeyedAt Config.params m (m.byteKs n) n s := by
    rw [m.byteKs_payload h5]
    exact h.keyed
  have hbyte := h.toReadUpTo.unpackUnmasked_fst hn hkey
  rw [hks] at hbyte
  have hstep : step s = sequencerStep Config.params s := step_idle_schedule s hs
  rw [sequencerStep_decPay _ hf hp, stepDecPay_eq hp (by rw [h.count]; exact h5) (by rw [h.count, hsize]; exact hn)
    (by rw [hsize]; exact h.receives.fits) (by rw [hsize]; exact h.granted) (h.toReadUpTo.needDec_le hn)] at hstep
  dsimp only at hstep
  rw [h.count, hsize, hbyte, h.code, ite_self] at hstep
  refine ⟨_, hstep, ⟨h.toReadUpTo.next hn ?_ ?_ rfl rfl, ?_, ?_, ?_, ?_, ?_, fun i hi => ?_⟩⟩
  · unfold LeftByDecrypt
    dsimp only
    rw [hframe]
  · rw [hframe]
  · dsimp only
    grind
  · rw [hframe]; exact h.header
  · rw [hframe]; exact h.payloadKs
  · rw [hframe]; exact h.granted
  · exact h.keyed.unpackUnmasked h.receives.masked (by rw [hks]; cases m.payloadKs <;> rfl) (by rw [hframe])
      (by rw [hks])
  · dsimp only
    by_cases hlast : i = n - 5
    · rw [hlast, read_write_same, Message.plain, if_neg (Nat.not_lt.mpr h5)]
    · rw [read_write_other _ _ _ _ hlast]
      exact h.stored i (by omega)

/-- The run of a decrypt: five header bytes, the grant, and the payload. -/
theorem Parsing.run (h : Parsing Config.params m 0 s) :
    ∃ t, runSteps (6 + m.size.toNat) s = .next t ∧ Storing Config.params m (5 + m.size.toNat) t := by
  obtain ⟨t, ht, hparsed⟩ := runSteps_induction (motive := Parsing Config.params m) 0 5
    (fun n u _ hn hu => hu.readByte (by omega)) h 5 le_rfl
  obtain ⟨u, hu, hstart⟩ := hparsed.enterPayload
  obtain ⟨w, hw, hstored⟩ := runSteps_induction (motive := Storing Config.params m) 5 m.size.toNat
    (fun n u h5 hn hu => hu.storeByte h5 hn) hstart m.size.toNat le_rfl
  have hsteps : 6 + m.size.toNat = 5 + (m.size.toNat + 1) := by omega
  exact ⟨w, by rw [hsteps, runSteps_add _ ht, runSteps_step _ hu, hw], hstored⟩

end

/-! The start of each run -/

section
variable {P : Config.Params} {m : Message} {s t u : State} {buf : Vector Byte 16} {v : Byte}

/-- Instance 0 just constructed, with LSEED and LPOS where it runs the old cipher (R135, R141). -/
theorem cursor_ks0_constructed (hks : t.ks0 = constructed P (P.seedSlice buf))
    (hseed : P.ks0Algo = .legacy → t.lseed = buf) (hpos : P.ks0Algo = .legacy → t.lpos = 0) :
    cursor P .ks0 t = firstCursor P .ks0 buf := by
  unfold cursor firstCursor
  split
  next hl =>
    have hl := (usesLegacy_ks0_iff P).mp hl
    rw [hseed hl, hpos hl]
  next => exact congrArg Cursor.lfsr hks

theorem startEncrypt_keyed (k : KsId) (hk : (s.message v).Uses k) :
    KeyedAt P (s.message v) k 0 (startEncrypt P v s) := by
  intro hm
  have hm : s.maskEn = true := hm
  rw [Message.cursorAt_zero, startEncrypt_eq]
  cases k with
  | ks0 => exact cursor_ks0_constructed (if_pos hm) (fun hl => if_pos ⟨hm, hl⟩) (fun hl => if_pos ⟨hm, hl⟩)
  | ks1 =>
    obtain hk | hv := hk
    · cases hk
    · rw [cursor_ks1]
      exact congrArg Cursor.lfsr (if_pos ⟨hm, hv⟩)

/-- The set-up of an encrypt has packed no byte of its message (R184). -/
theorem startEncrypt_enciphering (hs : s.SequencerNext) (hcap : 5 + s.size.toNat ≤ s.cap) :
    Enciphering P (s.message v) 0 (startEncrypt P v s) := by
  have heq := startEncrypt_eq P v s
  refine ⟨⟨?_, ?_, ?_, ?_⟩, ?_, ?_, ?_, ?_, ?_, startEncrypt_keyed, packed_fresh ?_ ?_⟩ <;> rw [heq]
  · exact ⟨rfl, rfl, hcap, rfl⟩
  · exact hs
  all_goals rfl

/-- With its seed staged a decrypt starts, and has read no byte (R188). -/
theorem Receives.start (h : Receives P m u)
    (hseed : m.masked = true → u.seed0.cnt = 16 ∧ u.seed0.buf = m.seeds .ks0) :
    plDecryptEffect P u = startDecrypt P u ∧ Parsing P m 0 (startDecrypt P u) := by
  have heq := startDecrypt_eq P u
  refine ⟨?_, ⟨⟨h.congr ?_, ?_, ?_, unpacked_fresh ?_ ?_, ?_⟩, ?_, ?_, fun hm => ?_⟩⟩
  · rw [plDecryptEffect_eq, if_neg fun ⟨hm, hc⟩ => hc (hseed (h.masked ▸ hm)).1]
  · rw [heq]; rfl
  · rw [heq]; exact ⟨rfl, rfl, Nat.zero_le _⟩
  · rw [heq]; rfl
  · rw [heq]; rfl
  · rw [heq]; rfl
  · rw [heq]
  · rw [heq]; rfl
  · rw [heq]; rfl
  · obtain ⟨-, hbuf⟩ := hseed hm
    have hmask := h.masked.trans hm
    rw [m.cursorAt_zero, ← hbuf, heq]
    exact cursor_ks0_constructed (if_pos hmask) (fun hl => if_pos ⟨hmask, hl⟩) (fun hl => if_pos ⟨hmask, hl⟩)

/-- A block in IDLE that receives a message recovers it (R198). -/
theorem Receives.recovers (h : Receives Config.params m u) (hidle : u.plState = .idle)
    (hseed : m.masked = true → u.seed0.cnt = 16 ∧ u.seed0.buf = m.seeds .ks0) :
    u.Recovers m.version m.size m.payload := by
  obtain ⟨hstart, hparsing⟩ := h.start hseed
  obtain ⟨hf, -⟩ := h.alone
  obtain ⟨t, hrun, hend⟩ := hparsing.run
  refine ⟨_, t, (exec_ready .plDecrypt u rfl ⟨hf, hidle⟩).trans (congrArg _ hstart), hrun,
    hend.state.trans (if_neg (lt_irrefl _)), hend.code, ?_, ?_, fun i hi => hend.stored i (by omega)⟩
  · rw [hend.header]; rfl
  · rw [hend.header]; rfl

/-- A size below 2^31 reads the same with and without sign (R189). -/
theorem sval_of_small {n : Word} (h : P.sizeSigned = true → n.toNat < 2 ^ 31) : sval P n = n.toNat := by
  unfold sval
  split
  next hs => exact BitVec.toInt_eq_toNat_of_lt (by have := h hs; omega)
  · rfl

/-- PL_ACK after an encrypt returns to IDLE (R194). -/
theorem exec_plAck_done (hf : s.faultedBy = none) (hp : s.plState = .done) :
    exec .plAck s = .next { s with plState := .idle, code := .ok, rej := false } := by
  obtain ⟨-, hack⟩ := plAckReturnsToIdle
  rw [hack s hf, if_neg (by rw [hp]; decide)]

end

/-! The round trip -/

/-- What R198 asks of a state in IDLE before the encrypt of version v. -/
structure State.Encryptable (v : Byte) (s : State) : Prop where
  ready : s.Ready
  unscheduled : s.schedule = []
  version : v.toNat ≤ 1
  fits : 5 + s.size.toNat ≤ s.cap
  staged : s.maskEn = true → s.seed0.cnt = 16 ∧ (v = 1 → s.seed1.cnt = 16)
  policy : s.maskEn = true → v = 0 → Config.params.v0Policy = .sameStream
  sized : Config.params.sizeSigned = true → s.size.toNat < 2 ^ 31

/-- A state in IDLE, left alone and granted its buffer, whose image size, MASK_EN and staged seeds are those of the
encrypt of version v from s (R198). -/
structure State.Mirrors (v : Byte) (s u : State) : Prop where
  ready : u.Ready
  unscheduled : u.schedule = []
  granted : u.allocAnswer = true
  width : u.width = s.width
  height : u.height = s.height
  masked : u.maskEn = s.maskEn
  seeds : s.maskEn = true → u.seed0 = s.seed0 ∧ (v = 1 → u.seed1 = s.seed1)

section
variable {v : Byte} {s t u : State}

theorem State.Encryptable.check_none (h : s.Encryptable v) : encryptCheck Config.params v s = none := by
  have hcheck := encryptCheck_eq_capacity (P := Config.params) h.version fun hm =>
    ⟨(h.staged hm).1, (h.staged hm).2, h.policy hm⟩
  exact hcheck.trans (if_neg (Nat.not_lt.mpr h.fits))

/-- The encrypt starts, and its run leaves the message in the image and the rest of the block's setting as it was. -/
theorem State.Encryptable.encrypts (h : s.Encryptable v) :
    exec (.plEncrypt v) s = .next (startEncrypt Config.params v s) ∧
      ∃ t, runSteps (6 + s.size.toNat) (startEncrypt Config.params v s) =
          .next { pkEncFlush t with code := .ok, plState := .done } ∧
        LeftByEncrypt (startEncrypt Config.params v s) t ∧
        ∀ i < 4 * (5 + s.size.toNat),
          imagePair (pkEncFlush t).pix i = streamPair ((s.message v).cipher Config.params) i := by
  obtain ⟨hf, -⟩ := h.ready
  have hrun := (startEncrypt_enciphering (P := Config.params) (v := v) ⟨hf, h.unscheduled⟩ h.fits).run
  have hsize : (startEncrypt Config.params v s).size = s.size := by rw [startEncrypt_eq]
  rw [hsize] at hrun
  exact ⟨(exec_plEncrypt_ready v s h.ready).trans (congrArg _ (plEncryptEffect_of_check_none h.check_none)), hrun⟩

/-- A mirror of s with the message of s in its image recovers the message. -/
theorem State.Mirrors.recovers (hu : s.Mirrors v u) (h : s.Encryptable v)
    (himage : ∀ i < 4 * (5 + s.size.toNat), imagePair u.pix i = streamPair ((s.message v).cipher Config.params) i) :
    u.Recovers v s.size s.input.read := by
  obtain ⟨hf, hidle⟩ := hu.ready
  have hreceives : Receives Config.params (s.message v) u := by
    refine ⟨⟨hf, hu.unscheduled⟩, hu.masked, ?_, himage, hu.granted, fun hm hv => ?_, fun hm hv => ?_, h.version,
      sval_of_small h.sized⟩
    · rw [State.cap, State.npix, hu.width, hu.height]
      exact h.fits
    · obtain ⟨-, hstaged⟩ := h.staged hm
      obtain ⟨-, hseed⟩ := hu.seeds hm
      rw [hseed hv]
      exact ⟨hstaged hv, rfl⟩
    · have hzero : v = 0 := by
        have hle := h.version
        have hne : v ≠ 1 := hv
        bv_omega
      rw [h.policy hm hzero]
      decide
  refine hreceives.recovers hidle fun hm => ?_
  obtain ⟨hstaged, -⟩ := h.staged hm
  obtain ⟨hseed, -⟩ := hu.seeds hm
  rw [hseed]
  exact ⟨hstaged, rfl⟩

/-- The block itself mirrors its state before the encrypt, once PL_ACK has brought it back to IDLE. -/
theorem LeftByEncrypt.mirrors (h : LeftByEncrypt (startEncrypt Config.params v s) t) (hs : s.Encryptable v)
    (hgrant : s.allocAnswer = true) :
    s.Mirrors v { pkEncFlush t with plState := .idle, code := .ok, rej := false } := by
  have hsame : t = { s with
      code := t.code, hdr := t.hdr, pk := t.pk, byteCnt := t.byteCnt, psel := t.psel, plState := t.plState, ks0 := t.ks0
      ks1 := t.ks1, lseed := t.lseed, lpos := t.lpos, pix := t.pix } := by
    unfold LeftByEncrypt at h
    rw [startEncrypt_eq] at h
    rw [h]
  obtain ⟨hf, -⟩ := hs.ready
  refine ⟨⟨?_, rfl⟩, ?_, ?_, ?_, ?_, ?_, fun _ => ⟨?_, fun _ => ?_⟩⟩ <;> rw [hsame]
  exacts [hf, hs.unscheduled, hgrant, rfl, rfl, rfl, rfl, rfl]

end

/-- Settles O58: the encrypt lays its message over the image, and every block that mirrors it recovers the message; the
same block after PL_ACK is one of them. -/
theorem decryptOfEncryptRecoversThePayload : Obligations.DecryptOfEncryptRecoversThePayload := by
  intro v s s1 hready hsched hv hcap hstaged hpolicy hsized hexec
  have henc : s.Encryptable v := ⟨hready, hsched, hv, hcap, hstaged, hpolicy, hsized⟩
  obtain ⟨hstart, t, hrun, hleft, himage⟩ := henc.encrypts
  cases hstart.symm.trans hexec
  have hfaulted : t.faultedBy = none := by
    obtain ⟨hf, -⟩ := hready
    rw [hleft, startEncrypt_eq]
    exact hf
  refine ⟨_, _, hrun, rfl, exec_plAck_done hfaulted rfl, fun hgrant => (hleft.mirrors henc hgrant).recovers henc himage,
    fun u hu husched hugrant hwidth hheight hmask hseeds hpix => ?_⟩
  refine State.Mirrors.recovers ⟨hu, husched, hugrant, hwidth, hheight, hmask, hseeds⟩ henc fun i hi => ?_
  have hnpix := cap_le_npix s
  rw [← himage i hi]
  exact imagePair_congr (hpix _ (by omega))

end Sys2Proof.Machine
end
